-- ==== Sys2Proof/Word.lean ====
section
/-! DEFINITION. The bit vectors TWCORE is made of: bytes, 32-bit words and the 13-bit condition words
(00_scope.md R8: bit 0 is the least significant bit, every value is unsigned). -/

namespace Sys2Proof

/-- One byte: a payload byte, a received byte, a device register address. -/
abbrev Byte := BitVec 8

/-- One 32-bit word: a host register or a command. -/
abbrev Word := BitVec 32

end Sys2Proof
end

