-- ==== Sys2Proof/Syntax.lean ====
section
/-! DEFINITION. The instructions of TWCORE: one constructor of `Instr` for every row of
spec/opcode_table.json, fifteen commands (30_encoding.md R119) and eleven conditions (R126), with the
fields of R111 and R125 as operands. -/

namespace Sys2Proof

/-- A bus engine and its bus, `CTL` (30_encoding.md R115; N_BUS = 2, 00_scope.md R6). -/
inductive BusId where
  | bus0
  | bus1
  deriving DecidableEq, Repr

/-- The direction of a bus transaction, `DIR`: 0 write, 1 read (10_state.md R45). -/
inductive Dir where
  | write
  | read
  deriving DecidableEq, Repr

/-- The three conditions of a two-wire bus (30_encoding.md R126). -/
inductive BusCond where
  | ack
  | rxdata
  | mstop
  deriving DecidableEq, Repr

/-- The two conditions of the serial port (30_encoding.md R126). -/
inductive SerCond where
  | txbl
  | txc
  deriving DecidableEq, Repr

/-- The three conditions of the periodic timer (30_encoding.md R126). -/
inductive TmrCond where
  | comp0
  | comp1
  | uf
  deriving DecidableEq, Repr

/-- The fifteen operation codes that are not reserved (30_encoding.md R119). -/
inductive Opcode where
  | evtPost
  | evtClear
  | evtPending
  | emInit
  | emBlock
  | emUnblock
  | emFirstBlocked
  | emSleep
  | busOpen
  | busStart
  | busAvail
  | busRdata
  | serOpen
  | serStart
  | serAvail
  deriving DecidableEq, Repr

/-- One command or one delivered condition.  A condition keeps its DATA byte although only RXDATA uses
it (30_encoding.md R127), so that decoding drops no bit. -/
inductive Instr where
  | evtPost (idx : BitVec 5)
  | evtClear (idx : BitVec 5)
  | evtPending
  | emInit
  | emBlock (depth : BitVec 3)
  | emUnblock (depth : BitVec 3)
  | emFirstBlocked
  | emSleep
  | busOpen (ctl : BusId)
  | busStart (ctl : BusId) (dir : Dir) (cnt : BitVec 3) (dev : BitVec 7) (reg : Byte) (evt : BitVec 5)
  | busAvail (ctl : BusId)
  | busRdata (ctl : BusId)
  | serOpen (idx : BitVec 5)
  | serStart (len : Byte)
  | serAvail
  | bus0Ack (data : Byte)
  | bus0Rxdata (data : Byte)
  | bus0Mstop (data : Byte)
  | bus1Ack (data : Byte)
  | bus1Rxdata (data : Byte)
  | bus1Mstop (data : Byte)
  | serTxbl (data : Byte)
  | serTxc (data : Byte)
  | tmrComp0 (data : Byte)
  | tmrComp1 (data : Byte)
  | tmrUf (data : Byte)
  deriving DecidableEq, Repr

/-- A word as it reaches TWCORE: a 32-bit command written to CMD (30_encoding.md R110), or a 13-bit
condition word delivered by an ENV agent (R125). -/
inductive InputWord where
  | command (w : Word)
  | condition (w : BitVec 13)
  deriving DecidableEq, Repr

/-- Why a word is no instruction: a reserved operation code (30_encoding.md R120), a reserved bit set
(R121), a reserved condition code (R128). -/
inductive Reject where
  | reservedOpcode (opc : BitVec 5)
  | reservedBits (opc : BitVec 5)
  | reservedCondition (src : BitVec 3) (cond : BitVec 2) (data : Byte)
  deriving DecidableEq, Repr

end Sys2Proof
end

