-- ==== Sys2Proof/Config.lean ====
section
/-! DEFINITION. What an implementation fixes (00_scope.md R6, R7; 92_eei_decisions.md "Open parameters")
and the free values the spec leaves open (93_implementation_defined.md part 1, treatment "any value"). -/

namespace Sys2Proof

/-- The agents that deliver conditions (00_scope.md R5). -/
inductive EnvAgent where
  | envBus (n : BusId)
  | envSer
  | envTmr
  deriving DecidableEq, Repr

/-- The parameters of 00_scope.md R6, and the open parameters TWCORE_BASE and CLOCKED (60_exceptions.md
R345), as plain data.  EVT_W = 32 and N_BUS = 2 are the only values R6 allows and stand as constants.  Log
entries 8, 9 and 11. -/
structure Config.Params where
  /-- N_DEPTHS, the number of sleep depths. -/
  nDepths : Nat
  /-- DEEPEST_SLEEP, the depth entered when nothing is blocked. -/
  deepestSleep : Nat
  /-- VOTE_BOUND, the bound every vote counter stays below. -/
  voteBound : Nat
  /-- VOTE_W, the width of a vote counter in bits. -/
  voteW : Nat
  /-- BUS_BLOCK_DEPTH, the depth a bus engine blocks during a transaction. -/
  busBlockDepth : Nat
  /-- SER_BLOCK_DEPTH, the depth the serial engine blocks during a transmission. -/
  serBlockDepth : Nat
  /-- DATA_W, the width of a bus engine's data word in bits. -/
  dataW : Nat
  /-- MAX_BYTES, the largest byte count of one bus transaction. -/
  maxBytes : Nat
  /-- SER_MAX_LEN, the capacity of the serial payload copy in bytes. -/
  serMaxLen : Nat
  /-- TWCORE_BASE, the base address of the register space. -/
  base : Nat
  /-- The pairs (agent, depth) for which CLOCKED(agent, depth) holds. -/
  clocked : List (EnvAgent × Nat)
  deriving DecidableEq, Repr

/-- EVT_W: the number of event identifiers (00_scope.md R6). -/
abbrev Config.evtW : Nat := 32

/-- The number of bytes of a bus engine's data word, DATA_W / 8. -/
def Config.Params.wordLen (p : Config.Params) : Nat := p.dataW / 8

/-- The constraints of 00_scope.md R6 and R7 (d), MAX_BYTES = DATA_W / 8 among them (DEDUCED, log 8), the alignment of TWCORE_BASE (92 "Open parameters")
and the constraint on CLOCKED (60_exceptions.md R345). -/
def Config.Params.ok (p : Config.Params) : Bool :=
  decide (4 ≤ p.nDepths)
    && decide (p.nDepths - 2 ≤ p.deepestSleep) && decide (p.deepestSleep ≤ p.nDepths - 1)
    && decide (2 ≤ p.voteBound) && decide (p.voteBound < 2 ^ p.voteW)
    && decide (2 ≤ p.busBlockDepth) && decide (p.busBlockDepth ≤ p.nDepths - 1)
    && decide (2 ≤ p.serBlockDepth) && decide (p.serBlockDepth ≤ p.nDepths - 1)
    && decide (p.dataW % 8 = 0)
    && decide (1 ≤ p.maxBytes) && decide (p.maxBytes ≤ 7) && decide (p.maxBytes = p.wordLen)
    && decide (1 ≤ p.serMaxLen) && decide (p.serMaxLen ≤ 255)
    && decide (p.base % 0x200 = 0)
    && (List.range p.busBlockDepth).all (fun k =>
        p.clocked.contains (.envBus .bus0, k) && p.clocked.contains (.envBus .bus1, k))
    && (List.range p.serBlockDepth).all (fun k => p.clocked.contains (.envSer, k))

/-- TWCORE's values (00_scope.md R6).  TWCORE_BASE is OPEN: 0 is a DESIGN CHOICE (log 9).  CLOCKED holds
where 60_exceptions.md R345 says so, the OPEN remainder is taken as not clocked (DESIGN CHOICE, log 11). -/
def Config.twcore : Config.Params where
  nDepths := 5
  deepestSleep := 3
  voteBound := 5
  voteW := 8
  busBlockDepth := 2
  serBlockDepth := 3
  dataW := 32
  maxBytes := 4
  serMaxLen := 80
  base := 0
  clocked :=
    [(.envBus .bus0, 0), (.envBus .bus0, 1), (.envBus .bus1, 0), (.envBus .bus1, 1),
     (.envSer, 0), (.envSer, 1), (.envSer, 2),
     (.envTmr, 0), (.envTmr, 1), (.envTmr, 2), (.envTmr, 3)]

/-- FREE VALUE.  Byte `k` of STAGE after the reset that drew `draw` (93 U3, 70_reset_and_hazards.md R352:
"an arbitrary byte, fixed at reset").  Log 7. -/
opaque Config.stageAtReset (draw k : Nat) : Byte

/-- FREE VALUE.  Byte `k` of SR.pay after the reset that drew `draw` (93 U3, R352).  Log 7. -/
opaque Config.payAtReset (draw k : Nat) : Byte

/-- FREE VALUE.  What ENV.BUS<n> drives on its bus-idle line before it first changes it (10_state.md R53,
93 U4: "a draw the ENV.BUS agent supplies, under no law").  Log 6. -/
opaque Config.busIdleAtReset (draw : Nat) (n : BusId) : Bool

/-- FREE VALUE.  What the platform answers to a read that is not a TWCORE access (20_memory.md R88:
"the platform decides what it reaches").  Log 10. -/
opaque Config.platformRead (draw addr width : Nat) : Word

end Sys2Proof
end

