-- ==== Sys2Proof/WellFormed.lean ====
section
/-! DEFINITION. The operand values that are legal (30_encoding.md R122).  A command with another operand
still decodes; its meaning raises Fatal BAD_OPERAND. -/

namespace Sys2Proof

/-- DEPTH ∈ 0..N_DEPTHS-1 (R122). -/
def depthLegal (p : Config.Params) (d : BitVec 3) : Bool := decide (d.toNat < p.nDepths)

/-- CNT ∈ 1..MAX_BYTES (R122). -/
def cntLegal (p : Config.Params) (c : BitVec 3) : Bool :=
  decide (1 ≤ c.toNat) && decide (c.toNat ≤ p.maxBytes)

/-- LEN ∈ 0..SER_MAX_LEN (R122). -/
def lenLegal (p : Config.Params) (n : Byte) : Bool := decide (n.toNat ≤ p.serMaxLen)

/-- Every operand is legal.  "IDX, EVT, CTL, DIR, DEV and REG admit every value their width holds" (R122). -/
def Instr.wellFormed (p : Config.Params) (i : Instr) : Bool :=
  match i with
  | .emBlock d => depthLegal p d
  | .emUnblock d => depthLegal p d
  | .busStart _ _ c _ _ _ => cntLegal p c
  | .serStart n => lenLegal p n
  | .evtPost _ | .evtClear _ | .evtPending | .emInit | .emFirstBlocked | .emSleep
  | .busOpen _ | .busAvail _ | .busRdata _ | .serOpen _ | .serAvail
  | .bus0Ack _ | .bus0Rxdata _ | .bus0Mstop _ | .bus1Ack _ | .bus1Rxdata _ | .bus1Mstop _
  | .serTxbl _ | .serTxc _ | .tmrComp0 _ | .tmrComp1 _ | .tmrUf _ => true

end Sys2Proof
end

