-- ==== Sys2Proof/Decode.lean ====
section
/-! DEFINITION. The decoder of command words and condition words (30_encoding.md), total, rejecting by
name, and the encoder written from the same formats. -/

namespace Sys2Proof

/-- The OPC column of 30_encoding.md R119. -/
def Opcode.bits (o : Opcode) : BitVec 5 :=
  match o with
  | .evtPost => 0b00001#5
  | .evtClear => 0b00010#5
  | .evtPending => 0b00011#5
  | .emInit => 0b00100#5
  | .emBlock => 0b00101#5
  | .emUnblock => 0b00110#5
  | .emFirstBlocked => 0b00111#5
  | .emSleep => 0b01000#5
  | .busOpen => 0b01001#5
  | .busStart => 0b01010#5
  | .busAvail => 0b01011#5
  | .busRdata => 0b01100#5
  | .serOpen => 0b01101#5
  | .serStart => 0b01110#5
  | .serAvail => 0b01111#5

/-- The row an OPC field selects; none for the reserved codes 0 and 16 to 31 (R119, R120). -/
def opcodeOf (opc : BitVec 5) : Option Opcode :=
  match opc.toNat with
  | 1 => some .evtPost
  | 2 => some .evtClear
  | 3 => some .evtPending
  | 4 => some .emInit
  | 5 => some .emBlock
  | 6 => some .emUnblock
  | 7 => some .emFirstBlocked
  | 8 => some .emSleep
  | 9 => some .busOpen
  | 10 => some .busStart
  | 11 => some .busAvail
  | 12 => some .busRdata
  | 13 => some .serOpen
  | 14 => some .serStart
  | 15 => some .serAvail
  | _ => none

/-- The `mask` column of R119: OPC and every reserved bit of the format. -/
def opcodeMask (o : Opcode) : Word :=
  match o with
  | .evtPost => 0xFFFFFFE0#32
  | .evtClear => 0xFFFFFFE0#32
  | .evtPending => 0xFFFFFFFF#32
  | .emInit => 0xFFFFFFFF#32
  | .emBlock => 0xFFFFFFF8#32
  | .emUnblock => 0xFFFFFFF8#32
  | .emFirstBlocked => 0xFFFFFFFF#32
  | .emSleep => 0xFFFFFFFF#32
  | .busOpen => 0xFBFFFFFF#32
  | .busStart => 0xF8000060#32
  | .busAvail => 0xFBFFFFFF#32
  | .busRdata => 0xFBFFFFFF#32
  | .serOpen => 0xFFFFFFE0#32
  | .serStart => 0xFFFFFF00#32
  | .serAvail => 0xFFFFFFFF#32

/-- The reserved bits of a format: the mask's bits below bit 27 (44_host_interface.md R283). -/
def reservedMask (o : Opcode) : Word := opcodeMask o &&& 0x07FFFFFF#32

/-- CTL, one bit (R115). -/
def busOfBit (b : BitVec 1) : BusId := if b = 0#1 then .bus0 else .bus1

/-- DIR, one bit: 0 write, 1 read (R116). -/
def dirOfBit (b : BitVec 1) : Dir := if b = 0#1 then .write else .read

/-- CTL as a bit (R115). -/
def BusId.bit (n : BusId) : BitVec 1 :=
  match n with
  | .bus0 => 0#1
  | .bus1 => 1#1

/-- DIR as a bit (R116). -/
def Dir.bit (d : Dir) : BitVec 1 :=
  match d with
  | .write => 0#1
  | .read => 1#1

/-- IDX and EVT: bits [4:0] (R113, R116). -/
def fieldIdx (w : Word) : BitVec 5 := w.extractLsb' 0 5

/-- DEPTH: bits [2:0] (R114). -/
def fieldDepth (w : Word) : BitVec 3 := w.extractLsb' 0 3

/-- CTL: bit [26] (R115, R116). -/
def fieldCtl (w : Word) : BusId := busOfBit (w.extractLsb' 26 1)

/-- DIR: bit [25] (R116). -/
def fieldDir (w : Word) : Dir := dirOfBit (w.extractLsb' 25 1)

/-- CNT: bits [24:22] (R116). -/
def fieldCnt (w : Word) : BitVec 3 := w.extractLsb' 22 3

/-- DEV: bits [21:15] (R116). -/
def fieldDev (w : Word) : BitVec 7 := w.extractLsb' 15 7

/-- REG: bits [14:7] (R116). -/
def fieldReg (w : Word) : Byte := w.extractLsb' 7 8

/-- LEN: bits [7:0] (R117). -/
def fieldLen (w : Word) : Byte := w.extractLsb' 0 8

/-- The command a word of a row stands for (R111 to R117). -/
def decodeFields (o : Opcode) (w : Word) : Instr :=
  match o with
  | .evtPost => .evtPost (fieldIdx w)
  | .evtClear => .evtClear (fieldIdx w)
  | .evtPending => .evtPending
  | .emInit => .emInit
  | .emBlock => .emBlock (fieldDepth w)
  | .emUnblock => .emUnblock (fieldDepth w)
  | .emFirstBlocked => .emFirstBlocked
  | .emSleep => .emSleep
  | .busOpen => .busOpen (fieldCtl w)
  | .busStart => .busStart (fieldCtl w) (fieldDir w) (fieldCnt w) (fieldDev w) (fieldReg w) (fieldIdx w)
  | .busAvail => .busAvail (fieldCtl w)
  | .busRdata => .busRdata (fieldCtl w)
  | .serOpen => .serOpen (fieldIdx w)
  | .serStart => .serStart (fieldLen w)
  | .serAvail => .serAvail

/-- Steps 2 and 3 of the decode order R124: the reserved operation codes, then the reserved bits. -/
def decodeCommand (w : Word) : Except Reject Instr :=
  match opcodeOf (w.extractLsb' 27 5) with
  | none => .error (.reservedOpcode (w.extractLsb' 27 5))
  | some o =>
    if w &&& reservedMask o = 0#32 then .ok (decodeFields o w)
    else .error (.reservedBits o.bits)

/-- The condition codes R126; the others are reserved (R128). -/
def decodeCondition (w : BitVec 13) : Except Reject Instr :=
  match (w.extractLsb' 10 3).toNat, (w.extractLsb' 8 2).toNat with
  | 0, 0 => .ok (.bus0Ack (w.extractLsb' 0 8))
  | 0, 1 => .ok (.bus0Rxdata (w.extractLsb' 0 8))
  | 0, 2 => .ok (.bus0Mstop (w.extractLsb' 0 8))
  | 1, 0 => .ok (.bus1Ack (w.extractLsb' 0 8))
  | 1, 1 => .ok (.bus1Rxdata (w.extractLsb' 0 8))
  | 1, 2 => .ok (.bus1Mstop (w.extractLsb' 0 8))
  | 2, 0 => .ok (.serTxbl (w.extractLsb' 0 8))
  | 2, 1 => .ok (.serTxc (w.extractLsb' 0 8))
  | 3, 0 => .ok (.tmrComp0 (w.extractLsb' 0 8))
  | 3, 1 => .ok (.tmrComp1 (w.extractLsb' 0 8))
  | 3, 2 => .ok (.tmrUf (w.extractLsb' 0 8))
  | _, _ => .error (.reservedCondition (w.extractLsb' 10 3) (w.extractLsb' 8 2) (w.extractLsb' 0 8))

/-- The decoder: total on every word that can reach TWCORE. -/
def decode (x : InputWord) : Except Reject Instr :=
  match x with
  | .command w => decodeCommand w
  | .condition w => decodeCondition w

/-- Format N (R112). -/
def formatN (o : Opcode) : InputWord := .command (o.bits ++ 0#27)

/-- Format E (R113). -/
def formatE (o : Opcode) (idx : BitVec 5) : InputWord := .command (o.bits ++ 0#22 ++ idx)

/-- Format D (R114). -/
def formatD (o : Opcode) (depth : BitVec 3) : InputWord := .command (o.bits ++ 0#24 ++ depth)

/-- Format C (R115). -/
def formatC (o : Opcode) (ctl : BusId) : InputWord := .command (o.bits ++ ctl.bit ++ 0#26)

/-- Format B (R116). -/
def formatB (o : Opcode) (ctl : BusId) (dir : Dir) (cnt : BitVec 3) (dev : BitVec 7) (reg : Byte)
    (evt : BitVec 5) : InputWord :=
  .command (o.bits ++ ctl.bit ++ dir.bit ++ cnt ++ dev ++ reg ++ 0#2 ++ evt)

/-- Format L (R117). -/
def formatL (o : Opcode) (len : Byte) : InputWord := .command (o.bits ++ 0#19 ++ len)

/-- A condition word {SRC, COND, DATA} (R125). -/
def formatCond (src : BitVec 3) (cond : BitVec 2) (data : Byte) : InputWord :=
  .condition (src ++ cond ++ data)

/-- The encoder, written from the formats R111 to R117 and the codes R119 and R126. -/
def encode (i : Instr) : InputWord :=
  match i with
  | .evtPost idx => formatE .evtPost idx
  | .evtClear idx => formatE .evtClear idx
  | .evtPending => formatN .evtPending
  | .emInit => formatN .emInit
  | .emBlock d => formatD .emBlock d
  | .emUnblock d => formatD .emUnblock d
  | .emFirstBlocked => formatN .emFirstBlocked
  | .emSleep => formatN .emSleep
  | .busOpen n => formatC .busOpen n
  | .busStart n dir cnt dev reg evt => formatB .busStart n dir cnt dev reg evt
  | .busAvail n => formatC .busAvail n
  | .busRdata n => formatC .busRdata n
  | .serOpen idx => formatE .serOpen idx
  | .serStart n => formatL .serStart n
  | .serAvail => formatN .serAvail
  | .bus0Ack b => formatCond 0#3 0#2 b
  | .bus0Rxdata b => formatCond 0#3 1#2 b
  | .bus0Mstop b => formatCond 0#3 2#2 b
  | .bus1Ack b => formatCond 1#3 0#2 b
  | .bus1Rxdata b => formatCond 1#3 1#2 b
  | .bus1Mstop b => formatCond 1#3 2#2 b
  | .serTxbl b => formatCond 2#3 0#2 b
  | .serTxc b => formatCond 2#3 1#2 b
  | .tmrComp0 b => formatCond 3#3 0#2 b
  | .tmrComp1 b => formatCond 3#3 1#2 b
  | .tmrUf b => formatCond 3#3 2#2 b

/-- The 32-bit word of a command; none for a condition, which no host write carries. -/
def InputWord.commandWord (x : InputWord) : Option Word :=
  match x with
  | .command w => some w
  | .condition _ => none

/-- The word of an instruction whose bits are `w`: a condition word where the table's row has at most
16 bits (13, in whole bytes), a command word where it has 32; none where the bits do not fit. -/
def tableWord (nbits w : Nat) : Option InputWord :=
  if nbits ≤ 16 then
    if w < 2 ^ 13 then some (.condition (BitVec.ofNat 13 w)) else none
  else
    if w < 2 ^ 32 then some (.command (BitVec.ofNat 32 w)) else none

/-- What the decoder gives for an opcode-table word of `nbits` bits. -/
def decodeTableWord (nbits w : Nat) : Option Instr :=
  match tableWord nbits w with
  | none => none
  | some x =>
    match decode x with
    | .ok i => some i
    | .error _ => none

end Sys2Proof
end

