-- ==== Sys2Proof/Machine/State.lean ====
section
/-! DEFINITION. The state of TWCORE (10_state.md R30, R52 to R55) with the agents that drive it
(00_scope.md R5), the reasons a step can stop, and the state after reset (70_reset_and_hazards.md R351). -/

namespace Sys2Proof.Machine

/-- Bus FSM states (10_state.md R40).  Codes 5 to 7 are reserved and never written; log 15. -/
inductive BusSt where
  | initWrite
  | addrForRead
  | initRead
  | writeData
  | awaitStop
  deriving DecidableEq, Repr

/-- Serial FSM states (10_state.md R47). -/
inductive SerSt where
  | writeData
  | stop
  deriving DecidableEq, Repr

/-- Bus actions (30_encoding.md R141). -/
inductive BusAction where
  | startW (dev : BitVec 7)
  | rstartR (dev : BitVec 7)
  | tx (b : Byte)
  | ack
  | nack
  | stop
  | abort
  | ienSaveZero
  | ifc
  | clrTx
  | start
  | ienRestore
  deriving DecidableEq, Repr

/-- Serial actions (30_encoding.md R142). -/
inductive SerAction where
  | tx (b : Byte)
  | ienTxbl (v : Bool)
  | ienTxc (v : Bool)
  deriving DecidableEq, Repr

/-- Power actions (30_encoding.md R143). -/
inductive PwrAction where
  | sleep (k : Nat)
  deriving DecidableEq, Repr

/-- The record of a bus engine (10_state.md R39 to R45).  The data word is DATA_W bits wide, a parameter, and
DATA_W is a multiple of 8, so the word is the list of its DATA_W / 8 bytes: entry `k` is bits [8k+7 : 8k].
Log 8. -/
structure BusEngine where
  opened : Bool
  recov : Bool
  avail : Bool
  st : BusSt
  word : List Byte
  cnt : BitVec 3
  dev : BitVec 7
  reg : Byte
  dir : Dir
  evt : BitVec 5
  deriving DecidableEq, Repr

/-- The record of the serial engine (10_state.md R46 to R50). -/
structure SerEngine where
  opened : Bool
  avail : Bool
  st : SerSt
  pay : List Byte
  len : Byte
  cur : Byte
  evt : BitVec 5
  ienTxbl : Bool
  ienTxc : Bool
  deriving DecidableEq, Repr

/-- The unit codes (60_exceptions.md R311). -/
inductive UnitId where
  | hostif
  | sched
  | arb
  | bus (n : BusId)
  | ser
  | tmr
  deriving DecidableEq, Repr

/-- The cause codes of a fault (60_exceptions.md R312). -/
inductive Cause where
  | illegalCmd
  | badOperand
  | sequence
  | voteOverflow
  | voteUnderflow
  | busNotIdle
  | busAckState
  | busRxdataState
  | busMstopState
  | serTxblState
  | serTxcState
  | illegalEvent
  | access
  deriving DecidableEq, Repr

/-- TKIND and TRIG of a fault: what the faulting step was handling (10_state.md R63). -/
structure Trig where
  /-- TKIND: true for a condition, false for a host access or a command. -/
  isCond : Bool
  /-- TRIG: the operation code, or {SRC, COND}. -/
  code : BitVec 5
  deriving DecidableEq, Repr

/-- The operands of `raise Fatal(unit, cause, info)` (00_scope.md R12, 60_exceptions.md R313). -/
structure FatalRec where
  unit : UnitId
  cause : Cause
  trig : Trig
  infoA : Byte
  infoB : BitVec 16
  deriving DecidableEq, Repr

/-- One host register access of `width` bytes at byte address `addr` (00_scope.md R10).  Only a 32-bit
write's value is ever stored; log 18. -/
inductive Access where
  | read (addr width : Nat)
  | write (addr width : Nat) (value : Word)
  deriving DecidableEq, Repr

/-- Where the reference main loop stands (44_host_interface.md R292): before its first snapshot, with
the snapshot read, with the live set read. -/
inductive LoopPhase where
  | snapshot
  | scan
  | check
  deriving DecidableEq, Repr

/-- The reference main loop of the host (44_host_interface.md R292), with the accesses each event's
handler makes, by event identifier.  Log 13. -/
structure MainLoop where
  phase : LoopPhase
  handlers : List (List Access)
  deriving DecidableEq, Repr

/-- One entry of the total order of the agents' steps (20_memory.md R92).  Log 1. -/
inductive Turn where
  /-- The host takes its next step, if it has one (44_host_interface.md R280). -/
  | host
  /-- The host's held CMD write, if there is one, is examined again (00_scope.md R13). -/
  | recheck
  /-- An ENV agent delivers a condition word (30_encoding.md R125). -/
  | cond (w : BitVec 13)
  /-- ENV.BUS<n> drives its bus-idle input (10_state.md R53). -/
  | idle (n : BusId) (v : Bool)
  /-- An observer reads a register (44_host_interface.md R281, 60_exceptions.md R340). -/
  | probe (addr width : Nat)
  /-- Power-on reset (70_reset_and_hazards.md R350). -/
  | powerOn
  deriving DecidableEq, Repr

/-- The state of TWCORE and of the agents around it. -/
structure State where
  /-- The implementation parameters (00_scope.md R6); no step writes them.  Log 8. -/
  cfg : Config.Params
  /-- FATAL, the sticky halted flag (10_state.md R32). -/
  fatal : Bool
  /-- FUNIT (R32). -/
  funit : BitVec 4
  /-- FCAUSE (R32). -/
  fcause : BitVec 8
  /-- FINFO (R32, R63). -/
  finfo : Word
  /-- RESP, the result of the last command that committed (R33). -/
  resp : Word
  /-- OPND, the staged write word of BUS_START (R34). -/
  opnd : Word
  /-- CMDBUSY, a bus recovery is in progress (R35). -/
  cmdBusy : Bool
  /-- TMRCFG, the timer routing register (R36). -/
  tmrCfg : Word
  /-- EVT, the scheduled-event set (R37). -/
  evt : BitVec Config.evtW
  /-- VOTE[0..N_DEPTHS-1], the vote table (R38): unsigned counters of VOTE_W bits.  Log 8. -/
  vote : List Nat
  /-- B[0] (R39). -/
  bus0 : BusEngine
  /-- B[1] (R39). -/
  bus1 : BusEngine
  /-- SR (R46). -/
  sr : SerEngine
  /-- STAGE[0..SER_MAX_LEN-1], the payload staging buffer (R51). -/
  stage : List Byte
  /-- The output trace of BUSPHY0, oldest action first (R54). -/
  busphy0 : List BusAction
  /-- The output trace of BUSPHY1. -/
  busphy1 : List BusAction
  /-- The output trace of SERPHY. -/
  serphy : List SerAction
  /-- The output trace of PWR. -/
  pwr : List PwrAction
  /-- bus_idle[0], the input line of ENV.BUS0 (R53).  Log 6. -/
  busIdle0 : Bool
  /-- bus_idle[1], the input line of ENV.BUS1 (R53). -/
  busIdle1 : Bool
  /-- HOST.asleep (R52). -/
  asleep : Bool
  /-- The host's CMD write that holds (R55 (a), 44_host_interface.md R283).  Log 3. -/
  held : Option Word
  /-- The accesses the host has still to issue, next first.  Log 13. -/
  program : List Access
  /-- The reference main loop, if the host runs it (44_host_interface.md R292).  Log 13. -/
  loop : Option MainLoop
  /-- What the host's last register read returned (44_host_interface.md R281).  Log 4. -/
  rdata : Word
  /-- What the observer's last register read returned.  Log 5. -/
  probeData : Word
  /-- The total order of the steps still to be taken (20_memory.md R92).  Log 1. -/
  turns : List Turn
  /-- How many free values have been drawn (the model's own counter).  Log 22. -/
  draws : Nat
  deriving DecidableEq, Repr

/-- Reasons to stop with a fault: none.  Every fault of the spec is the machine's own FATAL
(60_exceptions.md R310), which is a next state.  Nothing raises a `Fault`, which is safe. -/
inductive Fault
  deriving DecidableEq, Repr

/-- Reasons to refuse. -/
inductive Refusal where
  /-- Raised by an arm of `exec` whose instruction has no meaning yet (none is left); safe. -/
  | notModelled (mnemonic : String)
  deriving DecidableEq, Repr

/-- What the attempt to take a command's step comes to: it commits the next state, it holds
(00_scope.md R13), or it raises Fatal and commits nothing else (R12). -/
inductive Attempt where
  | commit (s : State)
  | hold
  | fatal (r : FatalRec)
  deriving DecidableEq, Repr

/-- B[n] after reset (70_reset_and_hazards.md R351). -/
def BusEngine.reset (p : Config.Params) : BusEngine where
  opened := false
  recov := false
  avail := false
  st := .initWrite
  word := List.replicate p.wordLen 0#8
  cnt := 0#3
  dev := 0#7
  reg := 0#8
  dir := .write
  evt := 0#5

/-- SR after reset (R351); the payload bytes are free values (R352), log 7. -/
def SerEngine.reset (p : Config.Params) (draw : Nat) : SerEngine where
  opened := false
  avail := false
  st := .writeData
  pay := (List.range p.serMaxLen).map (Config.payAtReset draw)
  len := 0#8
  cur := 0#8
  evt := 0#5
  ienTxbl := false
  ienTxc := false

/-- The state right after the power-on reset that draws free values number `draw`, for the parameters
`p` (10_state.md R30, 70_reset_and_hazards.md R350 to R352). -/
def State.resetWith (p : Config.Params) (draw : Nat) : State where
  cfg := p
  fatal := false
  funit := 0#4
  fcause := 0#8
  finfo := 0#32
  resp := 0#32
  opnd := 0#32
  cmdBusy := false
  tmrCfg := 0#32
  evt := 0#32
  vote := List.replicate p.nDepths 0
  bus0 := BusEngine.reset p
  bus1 := BusEngine.reset p
  sr := SerEngine.reset p draw
  stage := (List.range p.serMaxLen).map (Config.stageAtReset draw)
  busphy0 := []
  busphy1 := []
  serphy := []
  pwr := []
  busIdle0 := Config.busIdleAtReset draw .bus0
  busIdle1 := Config.busIdleAtReset draw .bus1
  asleep := false
  held := none
  program := []
  loop := none
  rdata := 0#32
  probeData := 0#32
  turns := []
  draws := draw

/-- TWCORE right after reset. -/
def State.reset : State := State.resetWith Config.twcore 0

end Sys2Proof.Machine
end

