-- ==== Sys2Proof/Machine/Flags.lean ====
section
/-! DEFINITION. The status flags and the codes software reads: the STATUS word (10_state.md R62), the
unit and cause codes (60_exceptions.md R311, R312) and the FINFO word (10_state.md R63). -/

namespace Sys2Proof.Machine

/-- The code of a bus FSM state (10_state.md R40). -/
def BusSt.code (st : BusSt) : BitVec 3 :=
  match st with
  | .initWrite => 0#3
  | .addrForRead => 1#3
  | .initRead => 2#3
  | .writeData => 3#3
  | .awaitStop => 4#3

/-- The code of a serial FSM state (10_state.md R47). -/
def SerSt.code (st : SerSt) : BitVec 1 :=
  match st with
  | .writeData => 0#1
  | .stop => 1#1

/-- FUNIT (60_exceptions.md R311). -/
def UnitId.code (u : UnitId) : BitVec 4 :=
  match u with
  | .hostif => 0#4
  | .sched => 1#4
  | .arb => 2#4
  | .bus .bus0 => 3#4
  | .bus .bus1 => 4#4
  | .ser => 5#4
  | .tmr => 6#4

/-- FCAUSE (60_exceptions.md R312). -/
def Cause.code (c : Cause) : BitVec 8 :=
  match c with
  | .illegalCmd => 0x01#8
  | .badOperand => 0x02#8
  | .sequence => 0x03#8
  | .voteOverflow => 0x04#8
  | .voteUnderflow => 0x05#8
  | .busNotIdle => 0x06#8
  | .busAckState => 0x07#8
  | .busRxdataState => 0x08#8
  | .busMstopState => 0x09#8
  | .serTxblState => 0x0A#8
  | .serTxcState => 0x0B#8
  | .illegalEvent => 0x0C#8
  | .access => 0x0D#8

/-- FINFO of a fault: `{INFO_B[15:0], 0b00, TKIND, TRIG[4:0], INFO_A[7:0]}` (60_exceptions.md R313). -/
def FatalRec.finfo (r : FatalRec) : Word :=
  r.infoB ++ 0#2 ++ BitVec.ofBool r.trig.isCond ++ r.trig.code ++ r.infoA

/-- The STATUS word (10_state.md R62). -/
def State.status (s : State) : Word :=
  0#1 ++ s.sr.st.code ++ s.bus1.st.code ++ s.bus0.st.code
    ++ BitVec.ofBool s.bus1.recov ++ BitVec.ofBool s.bus0.recov
    ++ BitVec.ofBool s.sr.opened ++ BitVec.ofBool s.bus1.opened ++ BitVec.ofBool s.bus0.opened
    ++ BitVec.ofBool s.sr.avail ++ BitVec.ofBool s.bus1.avail ++ BitVec.ofBool s.bus0.avail
    ++ s.fcause ++ s.funit ++ 0#2 ++ BitVec.ofBool s.cmdBusy ++ BitVec.ofBool s.fatal

/-- A flag as a 32-bit result, `zext_32` (42_bus_engine.md R212, 43_serial_engine.md R256). -/
def flagWord (b : Bool) : Word := (BitVec.ofBool b).setWidth 32

end Sys2Proof.Machine
end

