-- ==== Sys2Proof/Machine/Operands.lean ====
section
/-! DEFINITION. Operand forms: the trigger codes of commands and conditions, the big-endian bytes of a
bus data word, the little-endian byte lanes of STAGE, the fields of TMRCFG. -/

namespace Sys2Proof.Machine

/-- TRIG of a command: its operation code (60_exceptions.md R313). -/
def Trig.command (o : Opcode) : Trig := { isCond := false, code := o.bits }

/-- SRC of a bus (30_encoding.md R126). -/
def busSrc (n : BusId) : BitVec 3 :=
  match n with
  | .bus0 => 0#3
  | .bus1 => 1#3

/-- COND of a bus condition (30_encoding.md R126). -/
def busCondBits (c : BusCond) : BitVec 2 :=
  match c with
  | .ack => 0#2
  | .rxdata => 1#2
  | .mstop => 2#2

/-- COND of a serial condition (30_encoding.md R126). -/
def serCondBits (c : SerCond) : BitVec 2 :=
  match c with
  | .txbl => 0#2
  | .txc => 1#2

/-- TRIG of a condition: {SRC, COND} (60_exceptions.md R313). -/
def Trig.condition (src : BitVec 3) (cond : BitVec 2) : Trig := { isCond := true, code := src ++ cond }

/-- TRIG of a bus condition. -/
def Trig.busCond (n : BusId) (c : BusCond) : Trig := Trig.condition (busSrc n) (busCondBits c)

/-- TRIG of a serial condition (SRC = 2). -/
def Trig.serCond (c : SerCond) : Trig := Trig.condition 2#3 (serCondBits c)

/-- The byte `word[8c+7 : 8c]` that goes out when `c` bytes remain after it (20_memory.md R82,
42_bus_engine.md R218). -/
def wordByte (w : List Byte) (c : BitVec 3) : Byte := w.getD c.toNat 0#8

/-- `word | (zext(b) << 8c)`: a received byte put in its big-endian place (42_bus_engine.md R222), the
zero-extension being to the width of the word (R222 writes it for DATA_W = 32; log 8). -/
def placeByte (w : List Byte) (c : BitVec 3) (b : Byte) : List Byte :=
  w.set c.toNat (w.getD c.toNat 0#8 ||| b)

/-- A 32-bit value as a bus data word of `n` bytes, `B[n].word <- v`: cut to the field's width (00_scope.md
R9), or zero-extended where the field is wider (log 8). -/
def toDataWord (n : Nat) (v : Word) : List Byte := (List.range n).map (fun k => v.extractLsb' (8 * k) 8)

/-- The address byte `{dev[6:0], r/w}` an action puts on the bus (30_encoding.md R141; general knowledge
G1 of the spec, log 17).  The actions without an address byte give none. -/
def BusAction.addressByte (a : BusAction) : Option Byte :=
  match a with
  | .startW dev => some (dev ++ 0#1)
  | .rstartR dev => some (dev ++ 1#1)
  | .tx _ | .ack | .nack | .stop | .abort | .ienSaveZero | .ifc | .clrTx | .start | .ienRestore => none

/-- Word `k` of the STAGE window (10_state.md R64); an index past the buffer reads 0 (20_memory.md R85). -/
def stageWord (l : List Byte) (k : Nat) : Word :=
  l.getD (4 * k + 3) 0#8 ++ l.getD (4 * k + 2) 0#8 ++ l.getD (4 * k + 1) 0#8 ++ l.getD (4 * k) 0#8

/-- A bus data word as a 32-bit value, `RESP <- B[n].word`: cut to 32 bits (00_scope.md R9), or
zero-extended where the word is narrower (log 8). -/
def ofDataWord (w : List Byte) : Word := stageWord w 0

/-- A write of word `k` of the STAGE window: `STAGE[4k+j] <- v[8j+7:8j]` (44_host_interface.md R282); an
index past the buffer ignores it (20_memory.md R85). -/
def storeStageWord (l : List Byte) (k : Nat) (v : Word) : List Byte :=
  (((l.set (4 * k) (v.extractLsb' 0 8)).set (4 * k + 1) (v.extractLsb' 8 8)).set (4 * k + 2)
    (v.extractLsb' 16 8)).set (4 * k + 3) (v.extractLsb' 24 8)

/-- `for k in 0 .. len-1: SR.pay[k] <- STAGE[k]`; the bytes at and above `len` are unchanged
(10_state.md R48, 43_serial_engine.md R255). -/
def copyPayload (len : Nat) (stage pay : List Byte) : List Byte :=
  pay.mapIdx (fun k b => if k < len then stage.getD k b else b)

/-- The bits of TMRCFG that exist (44_host_interface.md R282; 10_state.md R36). -/
def tmrCfgMask : Word := 0x071F1F1F#32

/-- `TMRCFG[24 + c]`, the enable of a timer condition (10_state.md R36, 40_scheduler.md R160). -/
def tmrEnable (cfg : Word) (c : TmrCond) : Bool :=
  match c with
  | .comp0 => cfg.getLsbD 24
  | .comp1 => cfg.getLsbD 25
  | .uf => cfg.getLsbD 26

/-- `TMRCFG[8c+4 : 8c]`, the identifier a timer condition posts (R36, R160). -/
def tmrIdx (cfg : Word) (c : TmrCond) : BitVec 5 :=
  match c with
  | .comp0 => cfg.extractLsb' 0 5
  | .comp1 => cfg.extractLsb' 8 5
  | .uf => cfg.extractLsb' 16 5

end Sys2Proof.Machine
end

