-- ==== Sys2Proof/Machine/Ops.lean ====
section
/-! DEFINITION. The named operations every meaning is written over: access to the bus records and ports,
Fatal entry, the common step of a command and of a condition, posting, voting, waking, responding.
There is no return from an exception: "TWCORE has no trap handler, no vector, no exception return and no
delegation" (60_exceptions.md R310); power-on reset, the one way out of FATAL (R316 (e)), is here. -/

namespace Sys2Proof.Machine

/-! ### The two bus records and their ports (10_state.md R39) -/

/-- B[n]. -/
def State.bus (s : State) (n : BusId) : BusEngine :=
  match n with
  | .bus0 => s.bus0
  | .bus1 => s.bus1

/-- B[n] <- b. -/
def State.setBus (s : State) (n : BusId) (b : BusEngine) : State :=
  match n with
  | .bus0 => { s with bus0 := b }
  | .bus1 => { s with bus1 := b }

/-- bus_idle[n] (10_state.md R53). -/
def State.busIdle (s : State) (n : BusId) : Bool :=
  match n with
  | .bus0 => s.busIdle0
  | .bus1 => s.busIdle1

/-- The output trace of BUSPHY<n> (10_state.md R54). -/
def State.busphy (s : State) (n : BusId) : List BusAction :=
  match n with
  | .bus0 => s.busphy0
  | .bus1 => s.busphy1

/-- `emit(BUSPHY<n>, a)` for each action in order (00_scope.md R11). -/
def State.emitBus (s : State) (n : BusId) (as : List BusAction) : State :=
  match n with
  | .bus0 => { s with busphy0 := s.busphy0 ++ as }
  | .bus1 => { s with busphy1 := s.busphy1 ++ as }

/-- `emit(SERPHY, a)` for each action in order. -/
def State.emitSer (s : State) (as : List SerAction) : State := { s with serphy := s.serphy ++ as }

/-- `emit(PWR, a)`. -/
def State.emitPwr (s : State) (a : PwrAction) : State := { s with pwr := s.pwr ++ [a] }

/-! ### Fatal entry -/

/-- `raise Fatal(unit, cause, info)`: FATAL, FUNIT, FCAUSE and FINFO and no other state
(00_scope.md R12, 60_exceptions.md R313, R315). -/
def State.raise (s : State) (r : FatalRec) : State :=
  { s with fatal := true, funit := r.unit.code, fcause := r.cause.code, finfo := r.finfo }

/-- The record of a fault with INFO_B = 0, as every cause but ACCESS has it (60_exceptions.md R313). -/
def fatalRec (unit : UnitId) (cause : Cause) (trig : Trig) (infoA : Byte) : FatalRec :=
  { unit := unit, cause := cause, trig := trig, infoA := infoA, infoB := 0#16 }

/-- ACCESS: the width in INFO_A, the offset in INFO_B, TRIG = 0, TKIND = 0 (44_host_interface.md R284). -/
def accessFault (off width : Nat) : FatalRec :=
  { unit := .hostif, cause := .access, trig := { isCond := false, code := 0#5 },
    infoA := BitVec.ofNat 8 width, infoB := BitVec.ofNat 16 off }

/-- ILLEGAL_CMD and ILLEGAL_EVENT for a word the decoder rejects (30_encoding.md R120, R121, R128). -/
def rejectFault (r : Reject) : FatalRec :=
  match r with
  | .reservedOpcode opc => fatalRec .hostif .illegalCmd { isCond := false, code := opc } 0#8
  | .reservedBits opc => fatalRec .hostif .illegalCmd { isCond := false, code := opc } 0#8
  | .reservedCondition src cond data => fatalRec .hostif .illegalEvent (Trig.condition src cond) data

/-! ### The common step of a command and of a condition -/

/-- Step 1 of the decode order: a CMD write holds while FATAL = 1 or CMDBUSY = 1 (30_encoding.md R124,
44_host_interface.md R283). -/
def State.portHolds (s : State) : Bool := s.fatal || s.cmdBusy

/-- A hold: nothing of the block changes, the CMD write stays the host's pending step (00_scope.md R13,
44_host_interface.md R283).  Log 3. -/
def State.holdWrite (s : State) (w : Option Word) : State := { s with held := w }

/-- What the attempt of command `i` comes to as an outcome of the step from `s`. -/
def settle (i : Instr) (s : State) (a : Attempt) : Host.Outcome State Fault Refusal :=
  match a with
  | .commit s' => .next s'
  | .hold => .next (s.holdWrite (encode i).commandWord)
  | .fatal r => .next (s.raise r)

/-- The common step of a command: the holds of R124 step 1, then the command's own rule. -/
def command (i : Instr) (s : State) (a : Attempt) : Host.Outcome State Fault Refusal :=
  if s.portHolds then .next (s.holdWrite (encode i).commandWord) else settle i s a

/-- `RESP <- v`: the result of a command that commits (10_state.md R33). -/
def State.respond (s : State) (v : Word) : State := { s with resp := v }

/-- `wake()`: HOST.asleep <- 0 (60_exceptions.md R333). -/
def State.wake (s : State) : State := { s with asleep := false }

/-- The common step of a condition: lost while FATAL = 1 (60_exceptions.md R317), else it wakes the host
(R333) and its rule decides; a rule that raises Fatal commits nothing else, the wake included (R12). -/
def deliver (s : State) (rule : State → Except FatalRec State) : Host.Outcome State Fault Refusal :=
  if s.fatal then .next s
  else
    match rule s.wake with
    | .ok s' => .next s'
    | .error r => .next (s.raise r)

/-! ### Scheduler primitives -/

/-- The set whose only member is identifier `i` (10_state.md R37). -/
def evtBit (i : BitVec 5) : BitVec Config.evtW := 1#32 <<< i.toNat

/-- `post(i)`: EVT[i] <- 1 (40_scheduler.md R154). -/
def State.post (s : State) (i : BitVec 5) : State := { s with evt := s.evt ||| evtBit i }

/-- `EVT[i] <- 0` (40_scheduler.md R152). -/
def State.clearEvt (s : State) (i : BitVec 5) : State := { s with evt := s.evt &&& ~~~ evtBit i }

/-! ### Vote primitives (41_arbiter.md R174, R176) -/

/-- `VOTE[d]` as a number. -/
def State.voteAt (s : State) (d : Nat) : Nat := s.vote.getD d 0

/-- `VOTE[d] <- v`, cut to VOTE_W bits (00_scope.md R9). -/
def State.setVote (s : State) (d v : Nat) : State := { s with vote := s.vote.set d (v % 2 ^ s.cfg.voteW) }

/-- `vote_block(d)` for a calling step with trigger `t` (R174). -/
def voteBlock (t : Trig) (d : Nat) (s : State) : Except FatalRec State :=
  if s.voteAt d + 1 ≥ s.cfg.voteBound then .error (fatalRec .arb .voteOverflow t (BitVec.ofNat 8 d))
  else .ok (s.setVote d (s.voteAt d + 1))

/-- `vote_unblock(d)` for a calling step with trigger `t` (R174). -/
def voteUnblock (t : Trig) (d : Nat) (s : State) : Except FatalRec State :=
  if s.voteAt d = 0 then .error (fatalRec .arb .voteUnderflow t (BitVec.ofNat 8 d))
  else .ok (s.setVote d (s.voteAt d - 1))

/-- The scan of `fuel` depths from `d` on for the first one whose counter is not 0; `d + fuel` if there
is none (R176: "scans from shallowest to deepest depth"). -/
def State.scanVotes (s : State) (d fuel : Nat) : Nat :=
  match fuel with
  | 0 => d
  | k + 1 => if s.voteAt d = 0 then s.scanVotes (d + 1) k else d

/-- `first_blocked()`: the smallest d ∈ 0..N_DEPTHS-1 with VOTE[d] ≠ 0, or NONE = N_DEPTHS (R176). -/
def State.firstBlocked (s : State) : Nat := s.scanVotes 0 s.cfg.nDepths

/-! ### Power-on reset -/

/-- The reset step (70_reset_and_hazards.md R350): every field of R30 at its reset value, the traces
empty, the host awake, its held CMD write dropped.  The parameters, the ENV agents' own lines, the
order of turns and what the host goes on to issue are not TWCORE's and stay (log 14); the unspecified
bytes are drawn anew. -/
def State.powerOn (s : State) : State :=
  { State.resetWith s.cfg (s.draws + 1) with
    busIdle0 := s.busIdle0
    busIdle1 := s.busIdle1
    program := s.program
    loop := s.loop
    rdata := s.rdata
    probeData := s.probeData
    turns := s.turns }

end Sys2Proof.Machine
end

