-- ==== Sys2Proof/Machine/Arbiter.lean ====
section
/-! DEFINITION. The energy-mode arbiter (41_arbiter.md). -/

namespace Sys2Proof.Machine

/-- BAD_OPERAND of a depth command (30_encoding.md R122): unit ARB, the depth in INFO_A. -/
def badDepth (o : Opcode) (d : BitVec 3) : FatalRec :=
  fatalRec .arb .badOperand (Trig.command o) (d.setWidth 8)

/-- EM_INIT (41_arbiter.md R171): every counter is 0, also one an engine counts on. -/
def execEmInit (s : State) : Host.Outcome State Fault Refusal :=
  command .emInit s (.commit ({ s with vote := List.replicate s.cfg.nDepths 0 }.respond 0#32))

/-- The rule of EM_BLOCK after the holds (41_arbiter.md R172): the range check, then `vote_block`. -/
def blockAttempt (d : BitVec 3) (s : State) : Attempt :=
  if depthLegal s.cfg d then
    match voteBlock (Trig.command .emBlock) d.toNat s with
    | .ok s' => .commit (s'.respond 0#32)
    | .error r => .fatal r
  else .fatal (badDepth .emBlock d)

/-- EM_BLOCK (41_arbiter.md R172). -/
def execEmBlock (d : BitVec 3) (s : State) : Host.Outcome State Fault Refusal :=
  command (.emBlock d) s (blockAttempt d s)

/-- The rule of EM_UNBLOCK after the holds (41_arbiter.md R173): the range check, then `vote_unblock`. -/
def unblockAttempt (d : BitVec 3) (s : State) : Attempt :=
  if depthLegal s.cfg d then
    match voteUnblock (Trig.command .emUnblock) d.toNat s with
    | .ok s' => .commit (s'.respond 0#32)
    | .error r => .fatal r
  else .fatal (badDepth .emUnblock d)

/-- EM_UNBLOCK (41_arbiter.md R173). -/
def execEmUnblock (d : BitVec 3) (s : State) : Host.Outcome State Fault Refusal :=
  command (.emUnblock d) s (unblockAttempt d s)

/-- EM_FIRST_BLOCKED (41_arbiter.md R175, 90_conflicts.md C4): the shallowest blocked depth. -/
def execEmFirstBlocked (s : State) : Host.Outcome State Fault Refusal :=
  command .emFirstBlocked s (.commit (s.respond (BitVec.ofNat 32 s.firstBlocked)))

/-- The depth EM_SLEEP requests, if it requests one (41_arbiter.md R180): none when either of the two
shallowest depths is blocked (90_conflicts.md C1), DEEPEST_SLEEP when nothing is, else one level
shallower than the shallowest blocked depth. -/
def State.sleepTarget (s : State) : Option Nat :=
  if s.firstBlocked = 0 ∨ s.firstBlocked = 1 then none
  else if s.firstBlocked = s.cfg.nDepths then some s.cfg.deepestSleep
  else some (s.firstBlocked - 1)

/-- The rule of EM_SLEEP after the holds (41_arbiter.md R180).  It does not look at EVT
(70_reset_and_hazards.md R360). -/
def sleepAttempt (s : State) : Attempt :=
  match s.sleepTarget with
  | none => .commit (s.respond 0xFFFFFFFF#32)
  | some k => .commit ({ s.emitPwr (.sleep k) with asleep := true }.respond (BitVec.ofNat 32 k))

/-- EM_SLEEP (41_arbiter.md R180). -/
def execEmSleep (s : State) : Host.Outcome State Fault Refusal := command .emSleep s (sleepAttempt s)

end Sys2Proof.Machine
end

