-- ==== Sys2Proof/Machine/Bus.lean ====
section
/-! DEFINITION. The bus transaction engine, in two copies (42_bus_engine.md). -/

namespace Sys2Proof.Machine

/-! ### Commands -/

/-- A fault of engine n that records its FSM state (60_exceptions.md R313: SEQUENCE, BUS_NOT_IDLE and
every wrong-state cause). -/
def busFault (n : BusId) (c : Cause) (t : Trig) (st : BusSt) : FatalRec :=
  fatalRec (.bus n) c t (st.code.setWidth 8)

/-- The actions of bus recovery up to its STOP (42_bus_engine.md R205). -/
def recoveryStart : List BusAction := [.abort, .ienSaveZero, .ifc, .clrTx, .start, .stop]

/-- The actions that end bus recovery (42_bus_engine.md R232). -/
def recoveryEnd : List BusAction := [.ifc, .abort, .ienRestore]

/-- The rule of BUS_OPEN after the holds (42_bus_engine.md R205). -/
def openAttempt (n : BusId) (s : State) : Attempt :=
  if (s.bus n).opened then .fatal (busFault n .sequence (Trig.command .busOpen) (s.bus n).st)
  else
    .commit ({ (s.setBus n { s.bus n with recov := true }).emitBus n recoveryStart with
      cmdBusy := true }.respond 0#32)

/-- BUS_OPEN (42_bus_engine.md R205). -/
def execBusOpen (n : BusId) (s : State) : Host.Outcome State Fault Refusal :=
  command (.busOpen n) s (openAttempt n s)

/-- B[n] as BUS_START leaves it (42_bus_engine.md R210): a write copies OPND, a read clears the word. -/
def startedEngine (p : Config.Params) (b : BusEngine) (opnd : Word) (dir : Dir) (cnt : BitVec 3)
    (dev : BitVec 7) (reg : Byte) (evt : BitVec 5) : BusEngine :=
  { b with
    avail := false
    dir := dir
    cnt := cnt
    dev := dev
    reg := reg
    evt := evt
    word := (match dir with
      | .write => toDataWord p.wordLen opnd
      | .read => List.replicate p.wordLen 0#8)
    st := .initWrite }

/-- The rule of BUS_START after the holds of the command port (42_bus_engine.md R210): the range check,
SEQUENCE, the hold of R211, BUS_NOT_IDLE, VOTE_OVERFLOW, else the transaction begins. -/
def startAttempt (n : BusId) (dir : Dir) (cnt : BitVec 3) (dev : BitVec 7) (reg : Byte) (evt : BitVec 5)
    (s : State) : Attempt :=
  if cntLegal s.cfg cnt = false then
    .fatal (fatalRec (.bus n) .badOperand (Trig.command .busStart) (cnt.setWidth 8))
  else if (s.bus n).opened = false then
    .fatal (busFault n .sequence (Trig.command .busStart) (s.bus n).st)
  else if (s.bus n).avail = false then .hold
  else if s.busIdle n = false then
    .fatal (busFault n .busNotIdle (Trig.command .busStart) (s.bus n).st)
  else
    match voteBlock (Trig.command .busStart) s.cfg.busBlockDepth s with
    | .error r => .fatal r
    | .ok s1 =>
      .commit (((s1.setBus n (startedEngine s1.cfg (s1.bus n) s1.opnd dir cnt dev reg evt)).emitBus n
        [.startW dev]).respond 0#32)

/-- BUS_START (42_bus_engine.md R210, R211). -/
def execBusStart (n : BusId) (dir : Dir) (cnt : BitVec 3) (dev : BitVec 7) (reg : Byte) (evt : BitVec 5)
    (s : State) : Host.Outcome State Fault Refusal :=
  command (.busStart n dir cnt dev reg evt) s (startAttempt n dir cnt dev reg evt s)

/-- BUS_AVAIL (42_bus_engine.md R212). -/
def execBusAvail (n : BusId) (s : State) : Host.Outcome State Fault Refusal :=
  command (.busAvail n) s (.commit (s.respond (flagWord (s.bus n).avail)))

/-- BUS_RDATA (42_bus_engine.md R213): the word as it stands. -/
def execBusRdata (n : BusId) (s : State) : Host.Outcome State Fault Refusal :=
  command (.busRdata n) s (.commit (s.respond (ofDataWord (s.bus n).word)))

/-! ### Conditions -/

/-- The wrong-state cause of a bus condition (42_bus_engine.md R202, `bad_state_cause`). -/
def busBadCause (c : BusCond) : Cause :=
  match c with
  | .ack => .busAckState
  | .rxdata => .busRxdataState
  | .mstop => .busMstopState

/-- The fault of a condition the engine's state cannot receive (42_bus_engine.md R225, R226). -/
def wrongBusState (n : BusId) (c : BusCond) (st : BusSt) : FatalRec :=
  busFault n (busBadCause c) (Trig.busCond n c) st

/-- ACK in an engine that works (42_bus_engine.md R215 to R219). -/
def ackRule (n : BusId) (s : State) : Except FatalRec State :=
  match (s.bus n).st with
  | .initWrite =>
    .ok ((s.setBus n { s.bus n with st := (match (s.bus n).dir with
      | .write => .writeData
      | .read => .addrForRead) }).emitBus n [.tx (s.bus n).reg])
  | .addrForRead =>
    .ok ((s.setBus n { s.bus n with st := .initRead }).emitBus n [.rstartR (s.bus n).dev])
  | .writeData =>
    if (s.bus n).cnt - 1 = 0#3 then
      .ok ((s.setBus n { s.bus n with cnt := 0#3, st := .awaitStop }).emitBus n
        [.tx (wordByte (s.bus n).word 0#3), .stop])
    else
      .ok ((s.setBus n { s.bus n with cnt := (s.bus n).cnt - 1 }).emitBus n
        [.tx (wordByte (s.bus n).word ((s.bus n).cnt - 1))])
  | .initRead => .ok s
  | .awaitStop => .error (wrongBusState n .ack .awaitStop)

/-- RXDATA in an engine that works (42_bus_engine.md R222, R223). -/
def rxdataRule (n : BusId) (b : Byte) (s : State) : Except FatalRec State :=
  match (s.bus n).st with
  | .initRead =>
    if (s.bus n).cnt - 1 = 0#3 then
      .ok ((s.setBus n { s.bus n with
          word := placeByte (s.bus n).word 0#3 b, cnt := 0#3, st := .awaitStop }).emitBus n
        [.nack, .stop])
    else
      .ok ((s.setBus n { s.bus n with
          word := placeByte (s.bus n).word ((s.bus n).cnt - 1) b, cnt := (s.bus n).cnt - 1 }).emitBus n
        [.ack])
  | .initWrite => .error (wrongBusState n .rxdata .initWrite)
  | .addrForRead => .error (wrongBusState n .rxdata .addrForRead)
  | .writeData => .error (wrongBusState n .rxdata .writeData)
  | .awaitStop => .error (wrongBusState n .rxdata .awaitStop)

/-- MSTOP in AWAIT_STOP: the transaction completes (42_bus_engine.md R230). -/
def completeBus (n : BusId) (s : State) : Except FatalRec State :=
  match voteUnblock (Trig.busCond n .mstop) s.cfg.busBlockDepth s with
  | .error r => .error r
  | .ok s1 =>
    .ok ((s1.setBus n { s1.bus n with avail := true, st := .initWrite }).post (s1.bus n).evt)

/-- MSTOP in an engine that works (42_bus_engine.md R229). -/
def mstopRule (n : BusId) (s : State) : Except FatalRec State :=
  match (s.bus n).st with
  | .awaitStop => completeBus n s
  | .initWrite => .error (wrongBusState n .mstop .initWrite)
  | .addrForRead => .error (wrongBusState n .mstop .addrForRead)
  | .initRead => .error (wrongBusState n .mstop .initRead)
  | .writeData => .error (wrongBusState n .mstop .writeData)

/-- MSTOP during recovery finishes BUS_OPEN (42_bus_engine.md R232). -/
def recoveryDone (n : BusId) (s : State) : State :=
  { (s.setBus n { s.bus n with recov := false, opened := true, avail := true, st := .initWrite }).emitBus n
      recoveryEnd with cmdBusy := false }

/-- The prelude of every bus condition, after the wake (42_bus_engine.md R202): recovery (R232, R233),
an engine not open (R234), an available engine (R226), else the rule of the condition. -/
def busRule (n : BusId) (c : BusCond) (data : Byte) (s : State) : Except FatalRec State :=
  if (s.bus n).recov then
    match c with
    | .mstop => .ok (recoveryDone n s)
    | .ack => .ok s
    | .rxdata => .ok s
  else if (s.bus n).opened = false then .ok s
  else if (s.bus n).avail then .error (wrongBusState n c (s.bus n).st)
  else
    match c with
    | .ack => ackRule n s
    | .rxdata => rxdataRule n data s
    | .mstop => mstopRule n s

/-- BUS0.ACK (42_bus_engine.md R202, R215); DATA is ignored (30_encoding.md R127). -/
def execBus0Ack (data : Byte) (s : State) : Host.Outcome State Fault Refusal :=
  deliver s (busRule .bus0 .ack data)

/-- BUS0.RXDATA (42_bus_engine.md R202, R222). -/
def execBus0Rxdata (data : Byte) (s : State) : Host.Outcome State Fault Refusal :=
  deliver s (busRule .bus0 .rxdata data)

/-- BUS0.MSTOP (42_bus_engine.md R202, R229); DATA is ignored. -/
def execBus0Mstop (data : Byte) (s : State) : Host.Outcome State Fault Refusal :=
  deliver s (busRule .bus0 .mstop data)

/-- BUS1.ACK (42_bus_engine.md R202, R215); DATA is ignored. -/
def execBus1Ack (data : Byte) (s : State) : Host.Outcome State Fault Refusal :=
  deliver s (busRule .bus1 .ack data)

/-- BUS1.RXDATA (42_bus_engine.md R202, R222). -/
def execBus1Rxdata (data : Byte) (s : State) : Host.Outcome State Fault Refusal :=
  deliver s (busRule .bus1 .rxdata data)

/-- BUS1.MSTOP (42_bus_engine.md R202, R229); DATA is ignored. -/
def execBus1Mstop (data : Byte) (s : State) : Host.Outcome State Fault Refusal :=
  deliver s (busRule .bus1 .mstop data)

end Sys2Proof.Machine
end

