-- ==== Sys2Proof/Machine/Sched.lean ====
section
/-! DEFINITION. The event scheduler and the timer router (40_scheduler.md). -/

namespace Sys2Proof.Machine

/-- EVT_POST (40_scheduler.md R151). -/
def execEvtPost (idx : BitVec 5) (s : State) : Host.Outcome State Fault Refusal :=
  command (.evtPost idx) s (.commit ((s.post idx).respond 0#32))

/-- EVT_CLEAR (40_scheduler.md R152). -/
def execEvtClear (idx : BitVec 5) (s : State) : Host.Outcome State Fault Refusal :=
  command (.evtClear idx) s (.commit ((s.clearEvt idx).respond 0#32))

/-- EVT_PENDING (40_scheduler.md R153): a snapshot of EVT, which it leaves alone. -/
def execEvtPending (s : State) : Host.Outcome State Fault Refusal :=
  command .evtPending s (.commit (s.respond s.evt))

/-- The timer router, after the wake (40_scheduler.md R160): an enabled condition posts its configured
identifier, a disabled one is discarded. -/
def timerRule (c : TmrCond) (s : State) : Except FatalRec State :=
  if tmrEnable s.tmrCfg c then .ok (s.post (tmrIdx s.tmrCfg c)) else .ok s

/-- TMR.COMP0 (40_scheduler.md R160); DATA is ignored (30_encoding.md R127). -/
def execTmrComp0 (_data : Byte) (s : State) : Host.Outcome State Fault Refusal := deliver s (timerRule .comp0)

/-- TMR.COMP1 (40_scheduler.md R160). -/
def execTmrComp1 (_data : Byte) (s : State) : Host.Outcome State Fault Refusal := deliver s (timerRule .comp1)

/-- TMR.UF (40_scheduler.md R160). -/
def execTmrUf (_data : Byte) (s : State) : Host.Outcome State Fault Refusal := deliver s (timerRule .uf)

end Sys2Proof.Machine
end

