-- ==== Sys2Proof/Machine/Serial.lean ====
section
/-! DEFINITION. The serial transmit engine (43_serial_engine.md). -/

namespace Sys2Proof.Machine

/-- A fault of the serial engine that records its FSM state (60_exceptions.md R313). -/
def serFault (c : Cause) (t : Trig) (st : SerSt) : FatalRec := fatalRec .ser c t (st.code.setWidth 8)

/-- The rule of SER_OPEN after the holds (43_serial_engine.md R252).  It emits nothing. -/
def serOpenAttempt (idx : BitVec 5) (s : State) : Attempt :=
  if s.sr.opened then .fatal (serFault .sequence (Trig.command .serOpen) s.sr.st)
  else
    .commit ({ s with
      sr := { s.sr with
        opened := true, avail := true, st := .writeData, evt := idx, len := 0#8, cur := 0#8 } }.respond
      0#32)

/-- SER_OPEN (43_serial_engine.md R252). -/
def execSerOpen (idx : BitVec 5) (s : State) : Host.Outcome State Fault Refusal :=
  command (.serOpen idx) s (serOpenAttempt idx s)

/-- SR as SER_START leaves it (43_serial_engine.md R255). -/
def startedSerial (r : SerEngine) (stage : List Byte) (len : Byte) : SerEngine :=
  { r with
    avail := false
    pay := copyPayload len.toNat stage r.pay
    len := len
    cur := 0#8
    st := .writeData
    ienTxbl := true }

/-- The rule of SER_START after the holds of the command port (43_serial_engine.md R255): the range
check, SEQUENCE, the hold of R257, VOTE_OVERFLOW, else the transmission begins. -/
def serStartAttempt (len : Byte) (s : State) : Attempt :=
  if lenLegal s.cfg len = false then
    .fatal (fatalRec .ser .badOperand (Trig.command .serStart) len)
  else if s.sr.opened = false then .fatal (serFault .sequence (Trig.command .serStart) s.sr.st)
  else if s.sr.avail = false then .hold
  else
    match voteBlock (Trig.command .serStart) s.cfg.serBlockDepth s with
    | .error r => .fatal r
    | .ok s1 =>
      .commit (({ s1 with sr := startedSerial s1.sr s1.stage len }.emitSer [.ienTxbl true]).respond 0#32)

/-- SER_START (43_serial_engine.md R255, R257). -/
def execSerStart (len : Byte) (s : State) : Host.Outcome State Fault Refusal :=
  command (.serStart len) s (serStartAttempt len s)

/-- SER_AVAIL (43_serial_engine.md R256). -/
def execSerAvail (s : State) : Host.Outcome State Fault Refusal :=
  command .serAvail s (.commit (s.respond (flagWord s.sr.avail)))

/-- The first test of TXBL (43_serial_engine.md R258): the byte at the cursor goes out and the cursor
advances, if it has not reached the length. -/
def sendByte (s : State) : State :=
  if s.sr.cur.toNat < s.sr.len.toNat then
    { s with sr := { s.sr with cur := s.sr.cur + 1 } }.emitSer [.tx (s.sr.pay.getD s.sr.cur.toNat 0#8)]
  else s

/-- The second test of TXBL (43_serial_engine.md R258, 90_conflicts.md C3): it sees the cursor as the
first test left it, and ends the byte phase when the payload is used up. -/
def endBytes (s : State) : State :=
  if s.sr.cur = s.sr.len then
    { s with sr := { s.sr with ienTxbl := false, st := .stop, ienTxc := true } }.emitSer
      [.ienTxbl false, .ienTxc true]
  else s

/-- TXBL in an engine that works (43_serial_engine.md R258, R265). -/
def txblRule (s : State) : Except FatalRec State :=
  match s.sr.st with
  | .writeData => .ok (endBytes (sendByte s))
  | .stop => .error (serFault .serTxblState (Trig.serCond .txbl) .stop)

/-- TXC in an engine that works (43_serial_engine.md R262, R265). -/
def txcRule (s : State) : Except FatalRec State :=
  match s.sr.st with
  | .stop =>
    match voteUnblock (Trig.serCond .txc) s.cfg.serBlockDepth s with
    | .error r => .error r
    | .ok s1 =>
      .ok (({ s1 with sr := { s1.sr with ienTxc := false, st := .writeData, avail := true } }.emitSer
        [.ienTxc false]).post s1.sr.evt)
  | .writeData => .error (serFault .serTxcState (Trig.serCond .txc) .writeData)

/-- The wrong-state cause of a serial condition (43_serial_engine.md R251, `ser_bad_cause`). -/
def serBadCause (c : SerCond) : Cause :=
  match c with
  | .txbl => .serTxblState
  | .txc => .serTxcState

/-- The prelude of every serial condition, after the wake (43_serial_engine.md R251): an engine not open
(R267), an available engine (R266), else the rule of the condition. -/
def serRule (c : SerCond) (s : State) : Except FatalRec State :=
  if s.sr.opened = false then .ok s
  else if s.sr.avail then .error (serFault (serBadCause c) (Trig.serCond c) s.sr.st)
  else
    match c with
    | .txbl => txblRule s
    | .txc => txcRule s

/-- SER.TXBL (43_serial_engine.md R251, R258); DATA is ignored. -/
def execSerTxbl (_data : Byte) (s : State) : Host.Outcome State Fault Refusal := deliver s (serRule .txbl)

/-- SER.TXC (43_serial_engine.md R251, R262); DATA is ignored. -/
def execSerTxc (_data : Byte) (s : State) : Host.Outcome State Fault Refusal := deliver s (serRule .txc)

end Sys2Proof.Machine
end

