-- ==== Sys2Proof/Machine/Dispatch.lean ====
section
/-! DEFINITION. One arm per instruction: the meaning of every command and every condition. -/

namespace Sys2Proof.Machine

def exec (i : Instr) (s : State) : Host.Outcome State Fault Refusal :=
  match i with
  | .evtPost idx => Sys2Proof.Machine.execEvtPost idx s
  | .evtClear idx => Sys2Proof.Machine.execEvtClear idx s
  | .evtPending => Sys2Proof.Machine.execEvtPending s
  | .emInit => Sys2Proof.Machine.execEmInit s
  | .emBlock depth => Sys2Proof.Machine.execEmBlock depth s
  | .emUnblock depth => Sys2Proof.Machine.execEmUnblock depth s
  | .emFirstBlocked => Sys2Proof.Machine.execEmFirstBlocked s
  | .emSleep => Sys2Proof.Machine.execEmSleep s
  | .busOpen ctl => Sys2Proof.Machine.execBusOpen ctl s
  | .busStart ctl dir cnt dev reg evt => Sys2Proof.Machine.execBusStart ctl dir cnt dev reg evt s
  | .busAvail ctl => Sys2Proof.Machine.execBusAvail ctl s
  | .busRdata ctl => Sys2Proof.Machine.execBusRdata ctl s
  | .serOpen idx => Sys2Proof.Machine.execSerOpen idx s
  | .serStart len => Sys2Proof.Machine.execSerStart len s
  | .serAvail => Sys2Proof.Machine.execSerAvail s
  | .bus0Ack data => Sys2Proof.Machine.execBus0Ack data s
  | .bus0Rxdata data => Sys2Proof.Machine.execBus0Rxdata data s
  | .bus0Mstop data => Sys2Proof.Machine.execBus0Mstop data s
  | .bus1Ack data => Sys2Proof.Machine.execBus1Ack data s
  | .bus1Rxdata data => Sys2Proof.Machine.execBus1Rxdata data s
  | .bus1Mstop data => Sys2Proof.Machine.execBus1Mstop data s
  | .serTxbl data => Sys2Proof.Machine.execSerTxbl data s
  | .serTxc data => Sys2Proof.Machine.execSerTxc data s
  | .tmrComp0 data => Sys2Proof.Machine.execTmrComp0 data s
  | .tmrComp1 data => Sys2Proof.Machine.execTmrComp1 data s
  | .tmrUf data => Sys2Proof.Machine.execTmrUf data s

end Sys2Proof.Machine
end

