-- ==== Sys2Proof/Machine/HostIf.lean ====
section
/-! DEFINITION. The host register interface (44_host_interface.md R280 to R284, 20_memory.md R84 to R88)
and the delivery of a condition word. -/

namespace Sys2Proof.Machine

/-! ### The address map (20_memory.md R84) -/

/-- What an aligned offset below 0x200 names (20_memory.md R84). -/
inductive Reg where
  | cmd
  | resp
  | status
  | finfo
  | opnd
  | tmrCfg
  /-- Word `k` of the STAGE window. -/
  | stage (k : Nat)
  | reserved
  deriving DecidableEq, Repr

/-- The size of the register space in bytes (20_memory.md R80). -/
def regSpace : Nat := 0x200

/-- The number of words of the STAGE window, ceil(SER_MAX_LEN / 4) (20_memory.md R84). -/
def stageWords (p : Config.Params) : Nat := (p.serMaxLen + 3) / 4

/-- The register at an aligned offset (20_memory.md R84). -/
def regAt (p : Config.Params) (off : Nat) : Reg :=
  if off = 0x000 then .cmd
  else if off = 0x004 then .resp
  else if off = 0x008 then .status
  else if off = 0x00C then .finfo
  else if off = 0x010 then .opnd
  else if off = 0x014 then .tmrCfg
  else if 0x100 ≤ off ∧ (off - 0x100) / 4 < stageWords p then .stage ((off - 0x100) / 4)
  else .reserved

/-- The offset of a byte address in the register space over TWCORE_BASE; none outside it (20_memory.md
R80, R88). -/
def offsetOf (p : Config.Params) (addr : Nat) : Option Nat :=
  if p.base ≤ addr ∧ addr < p.base + regSpace then some (addr - p.base) else none

/-- The access is neither 4 bytes wide nor aligned to 4 (20_memory.md R87, R88). -/
def accessLegal (off width : Nat) : Bool := decide (width = 4) && decide (off % 4 = 0)

/-! ### Reads and writes -/

/-- What a read of a register returns (44_host_interface.md R281). -/
def State.readReg (s : State) (r : Reg) : Word :=
  match r with
  | .cmd => 0#32
  | .resp => s.resp
  | .status => s.status
  | .finfo => s.finfo
  | .opnd => s.opnd
  | .tmrCfg => s.tmrCfg &&& tmrCfgMask
  | .stage k => stageWord s.stage k
  | .reserved => 0#32

/-- A CMD write (44_host_interface.md R283, 30_encoding.md R124): it holds, is illegal, or issues the
command. -/
def cmdWrite (w : Word) (s : State) : Host.Outcome State Fault Refusal :=
  if s.portHolds then .next (s.holdWrite (some w))
  else
    match decode (.command w) with
    | .error r => .next (s.raise (rejectFault r))
    | .ok i => exec i s

/-- A write of a register (44_host_interface.md R282). -/
def writeReg (r : Reg) (v : Word) (s : State) : Host.Outcome State Fault Refusal :=
  match r with
  | .cmd => cmdWrite v s
  | .opnd => .next { s with opnd := v }
  | .tmrCfg => .next { s with tmrCfg := v &&& tmrCfgMask }
  | .stage k => .next { s with stage := storeStageWord s.stage k v }
  | .resp | .status | .finfo | .reserved => .next s

/-- The access fault (44_host_interface.md R284); the first fault is kept (60_exceptions.md R316). -/
def State.accessFatal (s : State) (off width : Nat) : State :=
  if s.fatal then s else s.raise (accessFault off width)

/-- A read of `width` bytes at `addr`: the value returned and the state it leaves
(44_host_interface.md R281, R284).  A read outside the register space is not a TWCORE access: it changes
nothing of TWCORE and returns a free value (20_memory.md R88, log 10). -/
def readAccess (addr width : Nat) (s : State) : Word × State :=
  match offsetOf s.cfg addr with
  | none => (Config.platformRead (s.draws + 1) addr width, { s with draws := s.draws + 1 })
  | some off =>
    if accessLegal off width then (s.readReg (regAt s.cfg off), s) else (0#32, s.accessFatal off width)

/-- A write of `width` bytes at `addr` (44_host_interface.md R282, R284).  A write outside the register
space is not a TWCORE access and changes nothing of TWCORE (20_memory.md R88, log 10). -/
def writeAccess (addr width : Nat) (v : Word) (s : State) : Host.Outcome State Fault Refusal :=
  match offsetOf s.cfg addr with
  | none => .next s
  | some off => if accessLegal off width then writeReg (regAt s.cfg off) v s else .next (s.accessFatal off width)

/-- One host register access (44_host_interface.md R280).  A read's value is kept in `rdata` (log 4). -/
def access (a : Access) (s : State) : Host.Outcome State Fault Refusal :=
  match a with
  | .read addr width => .next { (readAccess addr width s).2 with rdata := (readAccess addr width s).1 }
  | .write addr width v => writeAccess addr width v s

/-- The delivery of a condition word (30_encoding.md R125, R128): a reserved code raises ILLEGAL_EVENT
unless FATAL = 1 already (60_exceptions.md R317). -/
def condDeliver (w : BitVec 13) (s : State) : Host.Outcome State Fault Refusal :=
  match decode (.condition w) with
  | .ok i => exec i s
  | .error r => if s.fatal then .next s else .next (s.raise (rejectFault r))

end Sys2Proof.Machine
end

