-- ==== Sys2Proof/Machine/Agents.lean ====
section
/-! DEFINITION. The agents that drive TWCORE (00_scope.md R5): the host with its held write and its
reference main loop, the ENV agents, the observer, power-on reset; and one step of one of them. -/

namespace Sys2Proof.Machine

/-- The address of a register offset over TWCORE_BASE (44_host_interface.md R280). -/
def addrOf (p : Config.Params) (off : Nat) : Nat := p.base + off

/-- The host access that issues an instruction: a 32-bit write to CMD; none for a condition
(44_host_interface.md R283, R286). -/
def issue (p : Config.Params) (i : Instr) : List Access :=
  match (encode i).commandWord with
  | some w => [.write (addrOf p 0x000) 4 w]
  | none => []

/-- The host's read of RESP (44_host_interface.md R285). -/
def readResp (p : Config.Params) : Access := .read (addrOf p 0x004) 4

/-- The fixed scan order of the reference dispatcher (44_host_interface.md R292). -/
def scanOrder : List (BitVec 5) := [0#5, 1#5, 2#5, 3#5, 4#5, 5#5, 6#5]

/-- What the dispatcher does for one identifier of its snapshot: clear it, then run its handler
(44_host_interface.md R292). -/
def serve (p : Config.Params) (handlers : List (List Access)) (snap : Word) (i : BitVec 5) : List Access :=
  if snap.getLsbD i.toNat then issue p (.evtClear i) ++ handlers.getD i.toNat [] else []

/-- The accesses of the main loop's next stretch, given the value its last read returned, and the loop
as it stands after them (44_host_interface.md R292). -/
def advanceLoop (p : Config.Params) (l : MainLoop) (rdata : Word) : List Access × MainLoop :=
  match l.phase with
  | .snapshot => (issue p .evtPending ++ [readResp p], { l with phase := .scan })
  | .scan =>
    ((scanOrder.map (serve p l.handlers rdata)).flatten ++ issue p .evtPending ++ [readResp p],
      { l with phase := .check })
  | .check => (if rdata = 0#32 then issue p .emSleep else [], { l with phase := .snapshot })

/-- The held CMD write is examined again (00_scope.md R13, 44_host_interface.md R283). -/
def recheck (w : Word) (s : State) : Host.Outcome State Fault Refusal := cmdWrite w { s with held := none }

/-- The host's turn (44_host_interface.md R280): no step while it sleeps (R287); its held CMD write before
anything else (R283); then its next access; with none left, its main loop, if it runs one, goes on to
its next stretch, which is the host's own computation and no step of TWCORE (log 13). -/
def hostTurn (s : State) : Host.Outcome State Fault Refusal :=
  if s.asleep then .next s
  else
    match s.held with
    | some w => recheck w s
    | none =>
      match s.program with
      | a :: rest => access a { s with program := rest }
      | [] =>
        match s.loop with
        | none => .next s
        | some l =>
          .next { s with
            program := (advanceLoop s.cfg l s.rdata).1, loop := some (advanceLoop s.cfg l s.rdata).2 }

/-- The re-examination of a held CMD write after another agent's step (00_scope.md R13). -/
def recheckTurn (s : State) : Host.Outcome State Fault Refusal :=
  if s.asleep then .next s
  else
    match s.held with
    | some w => recheck w s
    | none => .next s

/-- ENV.BUS<n> drives its bus-idle line (10_state.md R53).  Log 6. -/
def State.driveIdle (s : State) (n : BusId) (v : Bool) : State :=
  match n with
  | .bus0 => { s with busIdle0 := v }
  | .bus1 => { s with busIdle1 := v }

/-- An observer's read (44_host_interface.md R281, 60_exceptions.md R340).  Log 5. -/
def probeTurn (addr width : Nat) (s : State) : Host.Outcome State Fault Refusal :=
  .next { (readAccess addr width s).2 with probeData := (readAccess addr width s).1 }

/-- One step of one agent (00_scope.md R5, 20_memory.md R92). -/
def takeTurn (t : Turn) (s : State) : Host.Outcome State Fault Refusal :=
  match t with
  | .host => hostTurn s
  | .recheck => recheckTurn s
  | .cond w => condDeliver w s
  | .idle n v => .next (s.driveIdle n v)
  | .probe addr width => probeTurn addr width s
  | .powerOn => .next s.powerOn

/-- The next step of the total order (20_memory.md R92).  With no turn left nothing happens: "the TWCORE
block itself takes no step of its own" (00_scope.md R5).  Log 1. -/
def nextStep (s : State) : Host.Outcome State Fault Refusal :=
  match s.turns with
  | [] => .next s
  | t :: rest => takeTurn t { s with turns := rest }

/-- The state in which the very next step takes the word `x`: a command is the next access of an awake
host that has nothing held, and the host has the next turn; a condition is the next turn.  Log 2. -/
def State.withInput (s : State) (x : InputWord) : State :=
  match x with
  | .command w =>
    { s with
      asleep := false
      held := none
      program := .write (addrOf s.cfg 0x000) 4 w :: s.program
      turns := .host :: s.turns }
  | .condition w => { s with turns := .cond w :: s.turns }

/-! ### The order of conditions one source raises together (60_exceptions.md R327) -/

/-- BUS: ACK, then RXDATA, then MSTOP. -/
def busTogether (n : BusId) (ack : Bool) (rxdata : Option Byte) (mstop : Bool) : List Turn :=
  (if ack then [.cond (busSrc n ++ 0#2 ++ 0#8)] else [])
    ++ (match rxdata with
      | some b => [.cond (busSrc n ++ 1#2 ++ b)]
      | none => [])
    ++ (if mstop then [.cond (busSrc n ++ 2#2 ++ 0#8)] else [])

/-- SER: TXBL, then TXC. -/
def serTogether (txbl txc : Bool) : List Turn :=
  (if txbl then [.cond (2#3 ++ 0#2 ++ 0#8)] else []) ++ (if txc then [.cond (2#3 ++ 1#2 ++ 0#8)] else [])

/-- TMR: COMP0, then COMP1, then UF. -/
def tmrTogether (comp0 comp1 uf : Bool) : List Turn :=
  (if comp0 then [.cond (3#3 ++ 0#2 ++ 0#8)] else []) ++ (if comp1 then [.cond (3#3 ++ 1#2 ++ 0#8)] else [])
    ++ (if uf then [.cond (3#3 ++ 2#2 ++ 0#8)] else [])

end Sys2Proof.Machine
end

