-- ==== Sys2Proof/Machine/Step.lean ====
section
/-! DEFINITION. One step of TWCORE with its agents (20_memory.md R92, R95). -/

namespace Sys2Proof.Machine

/-- One step. -/
def step (s : State) : Host.Outcome State Fault Refusal := nextStep s

/-- `s` with the instruction whose bits are `w`, `nbits` of them given by the opcode table, placed where
`step` takes its next one; `s` itself where the bits are no word of TWCORE. -/
def State.withFetchWord (s : State) (nbits w : Nat) : State :=
  match tableWord nbits w with
  | some x => s.withInput x
  | none => s

end Sys2Proof.Machine
end

