-- ==== Sys2Proof/Safety.lean ====
section
/-! DEFINITION. What claims about TWCORE are made in: a run that stays out of FATAL
(60_exceptions.md R316), the invariants of the state, the engines' votes (70_reset_and_hazards.md R364),
and the duties of a correct environment (60_exceptions.md R336). -/

namespace Sys2Proof.Machine

/-! ### Safe states -/

/-- No defensive assertion has fired: "a model's claim of correctness is therefore a claim that FATAL
stays 0" (60_exceptions.md R316). -/
abbrev State.Safe (s : State) : Prop := s.fatal = false

/-- The command port takes a CMD write at once: neither FATAL nor a bus recovery (30_encoding.md R124
step 1). -/
abbrev State.PortOpen (s : State) : Prop := s.fatal = false ∧ s.cmdBusy = false

/-- Engine n works on a transaction. -/
def BusEngine.busy (b : BusEngine) : Bool := b.opened && !b.avail

/-- The serial engine works on a transmission. -/
def SerEngine.busy (r : SerEngine) : Bool := r.opened && !r.avail

/-- A condition of engine n meets a working engine: not recovering, open, not available
(42_bus_engine.md R202). -/
abbrev State.BusWorks (s : State) (n : BusId) : Prop :=
  s.fatal = false ∧ (s.bus n).recov = false ∧ (s.bus n).opened = true ∧ (s.bus n).avail = false

/-- A serial condition meets a working engine (43_serial_engine.md R251). -/
abbrev State.SerWorks (s : State) : Prop :=
  s.fatal = false ∧ s.sr.opened = true ∧ s.sr.avail = false

/-! ### Invariants -/

/-- The arrays have their sizes (10_state.md R30): N_DEPTHS counters of VOTE_W bits, SER_MAX_LEN bytes of
STAGE and of SR.pay, data words of DATA_W bits. -/
abbrev State.Shape (s : State) : Prop :=
  s.vote.length = s.cfg.nDepths ∧ (∀ v ∈ s.vote, v < 2 ^ s.cfg.voteW)
    ∧ s.stage.length = s.cfg.serMaxLen ∧ s.sr.pay.length = s.cfg.serMaxLen
    ∧ s.bus0.word.length = s.cfg.wordLen ∧ s.bus1.word.length = s.cfg.wordLen

/-- Every counter stays below the sanity bound (10_state.md R38, 41_arbiter.md R174). -/
abbrev State.VotesBounded (s : State) : Prop := ∀ v ∈ s.vote, v < s.cfg.voteBound

/-- While FATAL = 0 the fault record is 0 (10_state.md R32). -/
abbrev State.RecordClear (s : State) : Prop :=
  s.fatal = false → s.funit = 0#4 ∧ s.fcause = 0#8 ∧ s.finfo = 0#32

/-- The reserved bits of TMRCFG are 0 (10_state.md R36). -/
abbrev State.TmrReservedZero (s : State) : Prop := s.tmrCfg &&& tmrCfgMask = s.tmrCfg

/-- The fields of one bus record agree (10_state.md R40 to R44): an engine is not open and recovering at
once; it is available only when open; available, it stands in INIT_WRITE; not working, its count is 0
and it stands in INIT_WRITE; working, its count is at most MAX_BYTES and is 0 exactly in AWAIT_STOP;
each path's states go with its direction. -/
abbrev BusEngine.Coherent (p : Config.Params) (b : BusEngine) : Prop :=
  (b.opened = true → b.recov = false)
    ∧ (b.avail = true → b.opened = true)
    ∧ (b.busy = false → b.st = .initWrite ∧ b.cnt = 0#3)
    ∧ (b.busy = true → (b.cnt = 0#3 ↔ b.st = .awaitStop))
    ∧ b.cnt.toNat ≤ p.maxBytes
    ∧ (b.st = .writeData → b.dir = .write)
    ∧ ((b.st = .addrForRead ∨ b.st = .initRead) → b.dir = .read)

/-- While a read is in flight the bytes not yet received are 0, so that OR-ing a byte in places it
(42_bus_engine.md R222, corner cases). -/
abbrev BusEngine.Unfilled (b : BusEngine) : Prop :=
  b.busy = true → b.dir = .read → ∀ k, k < b.cnt.toNat → b.word.getD k 0#8 = 0#8

/-- The fields of the serial record agree (10_state.md R46 to R50): the cursor is at most the length,
the length at most SER_MAX_LEN; in STOP the cursor is the length; not working, the engine stands in
WRITE_DATA; the enables are those of R50 for an open engine, and both 0 before it is open (log 12). -/
abbrev State.SerCoherent (s : State) : Prop :=
  s.sr.cur.toNat ≤ s.sr.len.toNat
    ∧ s.sr.len.toNat ≤ s.cfg.serMaxLen
    ∧ (s.sr.avail = true → s.sr.opened = true)
    ∧ (s.sr.busy = false → s.sr.st = .writeData)
    ∧ (s.sr.st = .stop → s.sr.cur = s.sr.len)
    ∧ (s.sr.ienTxbl = true ↔ (s.sr.busy = true ∧ s.sr.st = .writeData))
    ∧ (s.sr.ienTxc = true ↔ (s.sr.busy = true ∧ s.sr.st = .stop))

/-- CMDBUSY is 1 exactly while an engine recovers, and only one does (10_state.md R35, R42). -/
abbrev State.RecoveryCoherent (s : State) : Prop :=
  s.cmdBusy = (s.bus0.recov || s.bus1.recov) ∧ (s.bus0.recov && s.bus1.recov) = false

/-- The invariant of the machine: it holds at reset and every step keeps it. -/
abbrev State.Inv (s : State) : Prop :=
  s.cfg.ok = true ∧ s.Shape ∧ s.VotesBounded ∧ s.RecordClear ∧ s.TmrReservedZero
    ∧ s.bus0.Coherent s.cfg ∧ s.bus1.Coherent s.cfg ∧ s.bus0.Unfilled ∧ s.bus1.Unfilled
    ∧ s.SerCoherent ∧ s.RecoveryCoherent

/-! ### Votes the engines hold (70_reset_and_hazards.md R364) -/

/-- How many votes against depth `d` the engines that work have cast. -/
def State.engineVotes (s : State) (d : Nat) : Nat :=
  (if s.cfg.busBlockDepth = d then s.bus0.busy.toNat + s.bus1.busy.toNat else 0)
    + (if s.cfg.serBlockDepth = d then s.sr.busy.toNat else 0)

/-- Every vote an engine that works has cast is still counted: nothing released it for the engine. -/
abbrev State.VotesBacked (s : State) : Prop := ∀ d, d < s.cfg.nDepths → s.engineVotes d ≤ s.voteAt d

/-! ### A correct environment (60_exceptions.md R336) -/

/-- The depth the host sleeps at: the last depth requested while it is asleep, else 0. -/
def State.sleepDepth (s : State) : Nat :=
  if s.asleep then
    match s.pwr.getLast? with
    | some (.sleep k) => k
    | none => 0
  else 0

/-- CLOCKED(agent, k) (60_exceptions.md R345). -/
def isClocked (p : Config.Params) (a : EnvAgent) (k : Nat) : Bool := p.clocked.contains (a, k)

/-- A condition an engine can receive: any before it is open or while it recovers (they are discarded, or
end the recovery), none while it is available, else by its state (R240, R336 (b), (c)). -/
def BusEngine.receives (b : BusEngine) (c : BusCond) : Bool :=
  if b.recov || !b.opened then true
  else if b.avail then false
  else
    match c, b.st with
    | .ack, .awaitStop => false
    | .ack, _ => true
    | .rxdata, st => decide (st = .initRead)
    | .mstop, st => decide (st = .awaitStop)

/-- A serial condition that a correct serial port delivers: TXBL only while SR.ien_txbl = 1, TXC only while
SR.ien_txc = 1, so none before the engine is open (43_serial_engine.md R272, 60_exceptions.md R326 (a)).
That TXC waits for the last byte to leave the shift register is a matter of ENV.SER's own state and time
(log 19, 20). -/
def State.serReceives (s : State) (c : SerCond) : Bool :=
  match c with
  | .txbl => s.sr.ienTxbl
  | .txc => s.sr.ienTxc

/-- The agent whose condition an instruction is; none for a command. -/
def agentOf (i : Instr) : Option EnvAgent :=
  match i with
  | .bus0Ack _ | .bus0Rxdata _ | .bus0Mstop _ => some (.envBus .bus0)
  | .bus1Ack _ | .bus1Rxdata _ | .bus1Mstop _ => some (.envBus .bus1)
  | .serTxbl _ | .serTxc _ => some .envSer
  | .tmrComp0 _ | .tmrComp1 _ | .tmrUf _ => some .envTmr
  | .evtPost _ | .evtClear _ | .evtPending | .emInit | .emBlock _ | .emUnblock _ | .emFirstBlocked
  | .emSleep | .busOpen _ | .busStart _ _ _ _ _ _ | .busAvail _ | .busRdata _ | .serOpen _
  | .serStart _ | .serAvail => none

/-- The condition comes in protocol order: its engine can receive it (R336 (b), (c)); a timer condition
may come at any time (g); a command is no condition. -/
def State.inOrder (s : State) (i : Instr) : Bool :=
  match i with
  | .bus0Ack _ => s.bus0.receives .ack
  | .bus0Rxdata _ => s.bus0.receives .rxdata
  | .bus0Mstop _ => s.bus0.receives .mstop
  | .bus1Ack _ => s.bus1.receives .ack
  | .bus1Rxdata _ => s.bus1.receives .rxdata
  | .bus1Mstop _ => s.bus1.receives .mstop
  | .serTxbl _ => s.serReceives .txbl
  | .serTxc _ => s.serReceives .txc
  | .tmrComp0 _ | .tmrComp1 _ | .tmrUf _ => true
  | .evtPost _ | .evtClear _ | .evtPending | .emInit | .emBlock _ | .emUnblock _ | .emFirstBlocked
  | .emSleep | .busOpen _ | .busStart _ _ _ _ _ _ | .busAvail _ | .busRdata _ | .serOpen _
  | .serStart _ | .serAvail => true

/-- The duties of a correct environment that one delivery can break (60_exceptions.md R336 (a) to (c),
(f), (g)): no reserved code, protocol order, and an agent whose clock runs at the depth the host sleeps
at.  "One condition per step" (a) is the form of a turn. -/
def State.dutyMet (s : State) (w : BitVec 13) : Bool :=
  match decode (.condition w) with
  | .error _ => false
  | .ok i =>
    s.inOrder i
      && (match agentOf i with
        | some a => isClocked s.cfg a s.sleepDepth
        | none => true)

/-- The word an access writes to CMD, if it is such a write (44_host_interface.md R283). -/
def Access.cmdWord (p : Config.Params) (a : Access) : Option Word :=
  match a with
  | .write addr width w => if addr = addrOf p 0x000 ∧ width = 4 then some w else none
  | .read _ _ => none

/-- The CMD write that a turn of the host examines, if it examines one: the one it holds, else, on its own
turn, the next access (44_host_interface.md R283). -/
def State.cmdExamined (s : State) (t : Turn) : Option Word :=
  if s.asleep then none
  else
    match t with
    | .host =>
      match s.held with
      | some w => some w
      | none => s.program.head?.bind (Access.cmdWord s.cfg)
    | .recheck => s.held
    | .cond _ | .idle _ _ | .probe _ _ | .powerOn => none

/-- `bus_idle[n]` is 1 when a BUS_START to n takes its step (60_exceptions.md R336 (e)).  One that holds
takes none (00_scope.md R13). -/
def State.idleDuty (s : State) (t : Turn) : Bool :=
  match (s.cmdExamined t).map (fun w => decode (.command w)) with
  | some (.ok (.busStart n dir cnt dev reg evt)) =>
    s.portHolds || decide (startAttempt n dir cnt dev reg evt s = .hold) || s.busIdle n
  | _ => true

/-- The duties of R336 that one turn can break.  ENV.PWR's duty (h), to accept every SLEEP(k), has no turn
that could break it: an emitted action is in the trace. -/
def State.turnDuty (s : State) (t : Turn) : Bool :=
  match t with
  | .cond w => s.dutyMet w
  | .host | .recheck => s.idleDuty t
  | .idle _ _ | .probe _ _ | .powerOn => true

/-- The environment is correct over the turns `ts` from `s` on: no turn breaks a duty, and every recovery
begun has had its MSTOP by the end (R336 (d)).  Its one MSTOP is all it gets, because the engine is then
available and (c) forbids another. -/
def correctRun (ts : List Turn) (s : State) : Bool :=
  match ts with
  | [] => !s.bus0.recov && !s.bus1.recov
  | t :: rest =>
    s.turnDuty t
      && (match takeTurn t { s with turns := rest } with
        | .next s' => correctRun rest s'
        | .fault _ => false
        | .refused _ => false)

/-- The recorded cause is none of 0x06 to 0x0C, which only a bus that is not idle, a condition out of order
or a reserved condition raises (60_exceptions.md R312). -/
def State.hostFault (s : State) : Bool := decide (s.fcause.toNat < 6) || decide (12 < s.fcause.toNat)

/-! ### Words for claims -/

/-- The condition `c` of bus `n` as an instruction. -/
def busInstr (n : BusId) (c : BusCond) (data : Byte) : Instr :=
  match n, c with
  | .bus0, .ack => .bus0Ack data
  | .bus0, .rxdata => .bus0Rxdata data
  | .bus0, .mstop => .bus0Mstop data
  | .bus1, .ack => .bus1Ack data
  | .bus1, .rxdata => .bus1Rxdata data
  | .bus1, .mstop => .bus1Mstop data

/-- The condition `c` of the serial port as an instruction. -/
def serInstr (c : SerCond) (data : Byte) : Instr :=
  match c with
  | .txbl => .serTxbl data
  | .txc => .serTxc data

/-- The condition `c` of the timer as an instruction. -/
def tmrInstr (c : TmrCond) (data : Byte) : Instr :=
  match c with
  | .comp0 => .tmrComp0 data
  | .comp1 => .tmrComp1 data
  | .uf => .tmrUf data

/-- The bus engine an instruction is for, if it is for one. -/
def busOf (i : Instr) : Option BusId :=
  match i with
  | .busOpen n | .busStart n _ _ _ _ _ | .busAvail n | .busRdata n => some n
  | .bus0Ack _ | .bus0Rxdata _ | .bus0Mstop _ => some .bus0
  | .bus1Ack _ | .bus1Rxdata _ | .bus1Mstop _ => some .bus1
  | .evtPost _ | .evtClear _ | .evtPending | .emInit | .emBlock _ | .emUnblock _ | .emFirstBlocked
  | .emSleep | .serOpen _ | .serStart _ | .serAvail | .serTxbl _ | .serTxc _
  | .tmrComp0 _ | .tmrComp1 _ | .tmrUf _ => none

/-- An outcome with its next state changed by `f`. -/
def onNext (f : State → State) (o : Host.Outcome State Fault Refusal) : Host.Outcome State Fault Refusal :=
  match o with
  | .next s => .next (f s)
  | .fault r => .fault r
  | .refused r => .refused r

/-- The bytes read as one number, the first the most significant (20_memory.md R82). -/
def bigEndian (bs : List Byte) : Word := bs.foldl (fun w b => (w <<< 8) ||| b.setWidth 32) 0#32

/-- One vote or its release at a depth. -/
structure VoteOp where
  isBlock : Bool
  depth : BitVec 3
  deriving DecidableEq, Repr

/-- The command of a vote or of its release. -/
def VoteOp.instr (o : VoteOp) : Instr := if o.isBlock then .emBlock o.depth else .emUnblock o.depth

/-- How many more votes than releases a sequence makes at depth `d`. -/
def tally (d : Nat) (os : List VoteOp) : Int :=
  match os with
  | [] => 0
  | o :: rest => (if o.depth.toNat = d then (if o.isBlock then 1 else -1) else 0) + tally d rest

/-- The state is as reset leaves it (70_reset_and_hazards.md R351): every field but the unspecified bytes
of STAGE and SR.pay (R352), the parameters, the ENV agents' lines, the turns, and what belongs to the
host's program. -/
abbrev State.AfterReset (s : State) : Prop :=
  s.fatal = false ∧ s.funit = 0#4 ∧ s.fcause = 0#8 ∧ s.finfo = 0#32
    ∧ s.resp = 0#32 ∧ s.opnd = 0#32 ∧ s.cmdBusy = false ∧ s.tmrCfg = 0#32
    ∧ s.evt = 0#32 ∧ s.vote = List.replicate s.cfg.nDepths 0
    ∧ (∀ n, s.bus n = { opened := false, recov := false, avail := false, st := .initWrite,
                        word := List.replicate s.cfg.wordLen 0#8, cnt := 0#3, dev := 0#7, reg := 0#8, dir := .write, evt := 0#5 })
    ∧ s.sr = { opened := false, avail := false, st := .writeData, pay := s.sr.pay, len := 0#8, cur := 0#8,
               evt := 0#5, ienTxbl := false, ienTxc := false }
    ∧ s.sr.pay.length = s.cfg.serMaxLen ∧ s.stage.length = s.cfg.serMaxLen
    ∧ s.busphy0 = [] ∧ s.busphy1 = [] ∧ s.serphy = [] ∧ s.pwr = []
    ∧ s.asleep = false ∧ s.held = none

/-! ### Runs of deliveries -/

/-- The instructions executed in turn, the state kept as each leaves it; none at the first stop. -/
def execAll (is : List Instr) (s : State) : Option State :=
  match is with
  | [] => some s
  | i :: rest =>
    match exec i s with
    | .next s' => execAll rest s'
    | .fault _ => none
    | .refused _ => none

end Sys2Proof.Machine
end

