-- ==== Sys2Proof/Certificates/Slice0/Obligations.lean ====
section
/-! DEFINITION. The statements for the provers. -/

open Sys2Proof Sys2Proof.Machine

/-! ### Encoding and decode (30_encoding.md) -/

/-- Words of the spec's own table of encodings (95_test_vectors.md V-ENC-1, V-ENC-5; 30_encoding.md R119,
R126) decode to the instructions they stand for. -/
def Obligations.SpecWordsDecodeAsWritten : Prop :=
  decode (.command 0x0800001F#32) = .ok (.evtPost 31#5)
    ∧ decode (.command 0x28000003#32) = .ok (.emBlock 3#3)
    ∧ decode (.command 0x4C000000#32) = .ok (.busOpen .bus1)
    ∧ decode (.command 0x52A07183#32) = .ok (.busStart .bus0 .read 2#3 0x40#7 0xE3#8 3#5)
    ∧ decode (.command 0x573FFF9F#32) = .ok (.busStart .bus1 .read 4#3 0x7F#7 0xFF#8 31#5)
    ∧ decode (.command 0x70000050#32) = .ok (.serStart 80#8)
    ∧ decode (.condition 0x05FF#13) = .ok (.bus1Rxdata 0xFF#8)
    ∧ decode (.condition 0x08AA#13) = .ok (.serTxbl 0xAA#8)
    ∧ decode (.condition 0x0E00#13) = .ok (.tmrUf 0#8)

/-- Decoding an encoded instruction gives it back, with every operand at every value its field holds
(30_encoding.md R111 to R117, R125, R126). -/
def Obligations.DecodeInvertsEncode : Prop := ∀ i : Instr, decode (encode i) = .ok i

/-- A word that decodes is the encoding of what it decodes to: "every legal word decodes to exactly one
command" (30_encoding.md R123), and no two words stand for one instruction. -/
def Obligations.EncodeInvertsDecode : Prop := ∀ (x : InputWord) (i : Instr), decode x = .ok i → encode i = x

/-- A CMD write with a reserved opcode raises Fatal(HOSTIF, ILLEGAL_CMD) with INFO_A = 0 and TRIG = OPC
(30_encoding.md R120). -/
def Obligations.ReservedOpcodeFaults : Prop :=
  ∀ (s : State) (w : Word), s.PortOpen →
    ((w.extractLsb' 27 5).toNat = 0 ∨ 16 ≤ (w.extractLsb' 27 5).toNat) →
    cmdWrite w s = .next { s with
      fatal := true, funit := 0#4, fcause := 0x01#8, finfo := 0#19 ++ w.extractLsb' 27 5 ++ 0#8 }

/-- A word that is the encoding of no instruction raises Fatal(HOSTIF, ILLEGAL_CMD) with TRIG = OPC: a
reserved opcode, or a reserved bit set (30_encoding.md R119 to R121). -/
def Obligations.WordsOutsideTheTableFault : Prop :=
  ∀ (s : State) (w : Word), s.PortOpen → (∀ i, encode i ≠ .command w) →
    cmdWrite w s = .next { s with
      fatal := true, funit := 0#4, fcause := 0x01#8, finfo := 0#19 ++ w.extractLsb' 27 5 ++ 0#8 }

/-- An operand outside its legal set raises Fatal(unit, BAD_OPERAND) with the operand in INFO_A and TRIG =
OPC, before every other check of the command, a busy engine's hold among them (30_encoding.md R122). -/
def Obligations.OperandOutsideItsSetFaults : Prop :=
  ∀ (s : State), s.PortOpen →
    (∀ d : BitVec 3, s.cfg.nDepths ≤ d.toNat →
      exec (.emBlock d) s = .next { s with
          fatal := true, funit := 2#4, fcause := 0x02#8, finfo := 0#19 ++ 0b00101#5 ++ 0#5 ++ d }
        ∧ exec (.emUnblock d) s = .next { s with
          fatal := true, funit := 2#4, fcause := 0x02#8, finfo := 0#19 ++ 0b00110#5 ++ 0#5 ++ d })
    ∧ (∀ (n : BusId) (dir : Dir) (cnt : BitVec 3) (dev : BitVec 7) (reg : Byte) (evt : BitVec 5),
      (cnt.toNat = 0 ∨ s.cfg.maxBytes < cnt.toNat) →
      exec (.busStart n dir cnt dev reg evt) s = .next { s with
        fatal := true, funit := (if n = .bus0 then 3#4 else 4#4), fcause := 0x02#8,
        finfo := 0#19 ++ 0b01010#5 ++ 0#5 ++ cnt })
    ∧ (∀ len : Byte, s.cfg.serMaxLen < len.toNat →
      exec (.serStart len) s = .next { s with
        fatal := true, funit := 5#4, fcause := 0x02#8, finfo := 0#19 ++ 0b01110#5 ++ len })

/-- While FATAL = 1 or CMDBUSY = 1 every CMD write holds, legal or not: nothing changes but that the host
has it pending (30_encoding.md R124 step 1, 44_host_interface.md R283, 90_conflicts.md C6); that the write is
kept in the state, as its word, is the model's, log 3 (DEDUCED). -/
def Obligations.CommandPortHolds : Prop :=
  ∀ (s : State) (w : Word), (s.fatal = true ∨ s.cmdBusy = true) →
    cmdWrite w s = .next { s with held := some w }
      ∧ ∀ i, encode i = .command w → exec i s = .next { s with held := some w }

/-- The delivery of a reserved condition code raises Fatal(HOSTIF, ILLEGAL_EVENT) with TRIG = {SRC, COND},
TKIND = 1 and the DATA byte in INFO_A (30_encoding.md R128, 60_exceptions.md R313). -/
def Obligations.ReservedConditionFaults : Prop :=
  ∀ (s : State) (src : BitVec 3) (cond : BitVec 2) (data : Byte), s.fatal = false →
    (4 ≤ src.toNat ∨ cond = 3#2 ∨ (src = 2#3 ∧ cond = 2#2)) →
    condDeliver (src ++ cond ++ data) s = .next { s with
      fatal := true, funit := 0#4, fcause := 0x0C#8, finfo := 0#18 ++ 1#1 ++ src ++ cond ++ data }

/-- While FATAL = 1 the delivery of any condition word, reserved codes included, changes nothing
(60_exceptions.md R317). -/
def Obligations.ConditionsAfterFatalAreLost : Prop :=
  ∀ (s : State) (w : BitVec 13), s.fatal = true → condDeliver w s = .next s

/-! ### Event scheduler and timer router (40_scheduler.md) -/

/-- EVT_POST, encoded 0x08000000 | IDX, sets bit IDX of EVT, leaves the other bits (so a pending event stays
pending), writes RESP <- 0 and changes nothing else (40_scheduler.md R151, R154). -/
def Obligations.EvtPostSetsItsBit : Prop :=
  ∀ (s : State) (idx : BitVec 5), s.PortOpen →
    encode (.evtPost idx) = .command (0x08000000#32 ||| idx.setWidth 32)
    ∧ ∃ e, exec (.evtPost idx) s = .next { s with evt := e, resp := 0#32 }
      ∧ ∀ j, j < 32 → e.getLsbD j = (s.evt.getLsbD j || decide (j = idx.toNat))

/-- EVT_CLEAR, encoded 0x10000000 | IDX, clears bit IDX of EVT, leaves the other bits, writes RESP <- 0 and
changes nothing else (40_scheduler.md R152). -/
def Obligations.EvtClearClearsItsBit : Prop :=
  ∀ (s : State) (idx : BitVec 5), s.PortOpen →
    encode (.evtClear idx) = .command (0x10000000#32 ||| idx.setWidth 32)
    ∧ ∃ e, exec (.evtClear idx) s = .next { s with evt := e, resp := 0#32 }
      ∧ ∀ j, j < 32 → e.getLsbD j = (s.evt.getLsbD j && !decide (j = idx.toNat))

/-- EVT_PENDING, the word 0x18000000, writes RESP <- EVT and changes nothing else (40_scheduler.md R153). -/
def Obligations.EvtPendingReadsTheSet : Prop :=
  encode .evtPending = .command 0x18000000#32
    ∧ ∀ s : State, s.PortOpen → exec .evtPending s = .next { s with resp := s.evt }

/-- The words of the three timer conditions are 0x0C00, 0x0D00 and 0x0E00 with any DATA; each posts the
identifier TMRCFG[8c+4:8c] when TMRCFG[24+c] is 1, is discarded when it is 0, and wakes the host in both
cases (40_scheduler.md R160). -/
def Obligations.TimerConditionsPost : Prop :=
  ∀ (s : State) (data : Byte), s.fatal = false →
    encode (.tmrComp0 data) = .condition (0x0C00#13 ||| data.setWidth 13)
    ∧ encode (.tmrComp1 data) = .condition (0x0D00#13 ||| data.setWidth 13)
    ∧ encode (.tmrUf data) = .condition (0x0E00#13 ||| data.setWidth 13)
    ∧ (∃ e, exec (.tmrComp0 data) s = .next { s with evt := e, asleep := false }
      ∧ ∀ j, j < 32 → e.getLsbD j =
        (s.evt.getLsbD j || (s.tmrCfg.getLsbD 24 && decide (j = (s.tmrCfg.extractLsb' 0 5).toNat))))
    ∧ (∃ e, exec (.tmrComp1 data) s = .next { s with evt := e, asleep := false }
      ∧ ∀ j, j < 32 → e.getLsbD j =
        (s.evt.getLsbD j || (s.tmrCfg.getLsbD 25 && decide (j = (s.tmrCfg.extractLsb' 8 5).toNat))))
    ∧ (∃ e, exec (.tmrUf data) s = .next { s with evt := e, asleep := false }
      ∧ ∀ j, j < 32 → e.getLsbD j =
        (s.evt.getLsbD j || (s.tmrCfg.getLsbD 26 && decide (j = (s.tmrCfg.extractLsb' 16 5).toNat))))

/-- No command but EVT_CLEAR and no condition clears a pending event (40_scheduler.md R152, R154). -/
def Obligations.OnlyEvtClearClearsAnEvent : Prop :=
  ∀ (i : Instr) (s : State), (∀ idx, i ≠ .evtClear idx) →
    ∃ t, exec i s = .next t ∧ ∀ j, s.evt.getLsbD j = true → t.evt.getLsbD j = true

/-! ### Energy-mode arbiter (41_arbiter.md) -/

/-- EM_INIT, the word 0x20000000, zeroes the N_DEPTHS counters, writes RESP <- 0 and changes nothing else,
at any time, also while an engine holds a vote (41_arbiter.md R171). -/
def Obligations.EmInitZeroesTheVotes : Prop :=
  encode .emInit = .command 0x20000000#32
    ∧ ∀ s : State, s.PortOpen →
      exec .emInit s = .next { s with vote := List.replicate s.cfg.nDepths 0, resp := 0#32 }

/-- EM_BLOCK d for a legal depth: where VOTE[d] + 1 stays below VOTE_BOUND it adds one to VOTE[d], writes
RESP <- 0 and changes nothing else; where it does not, it raises Fatal(ARB, VOTE_OVERFLOW) with the depth in
INFO_A and VOTE[d] stays (41_arbiter.md R172, R174). -/
def Obligations.EmBlockAddsAVote : Prop :=
  ∀ (s : State) (d : BitVec 3), s.PortOpen → d.toNat < s.cfg.nDepths → s.Shape →
    s.cfg.voteBound < 2 ^ s.cfg.voteW →
    encode (.emBlock d) = .command (0x28000000#32 ||| d.setWidth 32)
    ∧ (s.voteAt d.toNat + 1 < s.cfg.voteBound →
      ∃ l, exec (.emBlock d) s = .next { s with vote := l, resp := 0#32 }
        ∧ l.length = s.vote.length ∧ l.getD d.toNat 0 = s.vote.getD d.toNat 0 + 1
        ∧ ∀ e, e ≠ d.toNat → l.getD e 0 = s.vote.getD e 0)
    ∧ (s.cfg.voteBound ≤ s.voteAt d.toNat + 1 →
      exec (.emBlock d) s = .next { s with
        fatal := true, funit := 2#4, fcause := 0x04#8, finfo := 0#19 ++ 0b00101#5 ++ 0#5 ++ d })

/-- EM_UNBLOCK d for a legal depth: where VOTE[d] is not 0 it takes one from VOTE[d], writes RESP <- 0 and
changes nothing else; where it is 0, it raises Fatal(ARB, VOTE_UNDERFLOW) with the depth in INFO_A
(41_arbiter.md R173, R174). -/
def Obligations.EmUnblockTakesAVote : Prop :=
  ∀ (s : State) (d : BitVec 3), s.PortOpen → d.toNat < s.cfg.nDepths → s.Shape →
    encode (.emUnblock d) = .command (0x30000000#32 ||| d.setWidth 32)
    ∧ (s.voteAt d.toNat ≠ 0 →
      ∃ l, exec (.emUnblock d) s = .next { s with vote := l, resp := 0#32 }
        ∧ l.length = s.vote.length ∧ l.getD d.toNat 0 + 1 = s.vote.getD d.toNat 0
        ∧ ∀ e, e ≠ d.toNat → l.getD e 0 = s.vote.getD e 0)
    ∧ (s.voteAt d.toNat = 0 →
      exec (.emUnblock d) s = .next { s with
        fatal := true, funit := 2#4, fcause := 0x05#8, finfo := 0#19 ++ 0b00110#5 ++ 0#5 ++ d })

/-- EM_FIRST_BLOCKED, the word 0x38000000, answers the smallest depth whose counter is not 0, N_DEPTHS where
every counter is 0, and changes nothing but RESP (41_arbiter.md R175, R176). -/
def Obligations.EmFirstBlockedFindsTheShallowest : Prop :=
  encode .emFirstBlocked = .command 0x38000000#32
    ∧ ∀ s : State, s.PortOpen →
      ∃ f, exec .emFirstBlocked s = .next { s with resp := BitVec.ofNat 32 f }
        ∧ f ≤ s.cfg.nDepths ∧ (∀ d, d < f → s.voteAt d = 0) ∧ (f < s.cfg.nDepths → s.voteAt f ≠ 0)

/-- EM_SLEEP, the word 0x40000000, where f is the shallowest blocked depth, or N_DEPTHS: for f in 0, 1 it
answers 0xFFFFFFFF and requests nothing; else it requests DEEPEST_SLEEP when nothing is blocked and f - 1
when something is, puts the host to sleep and answers the depth; it changes nothing else (41_arbiter.md
R180, 90_conflicts.md C1). -/
def Obligations.EmSleepPicksTheDepth : Prop :=
  encode .emSleep = .command 0x40000000#32
  ∧ ∀ (s : State) (f : Nat), s.PortOpen → (∀ d, d < f → s.voteAt d = 0) →
    (f = s.cfg.nDepths ∨ (f < s.cfg.nDepths ∧ s.voteAt f ≠ 0)) →
    (f < 2 → exec .emSleep s = .next { s with resp := 0xFFFFFFFF#32 })
    ∧ (2 ≤ f → f = s.cfg.nDepths →
      exec .emSleep s = .next { s with
        pwr := s.pwr ++ [.sleep s.cfg.deepestSleep], asleep := true,
        resp := BitVec.ofNat 32 s.cfg.deepestSleep })
    ∧ (2 ≤ f → f < s.cfg.nDepths →
      exec .emSleep s = .next { s with
        pwr := s.pwr ++ [.sleep (f - 1)], asleep := true, resp := BitVec.ofNat 32 (f - 1) })

/-- The sleep mapping of TWCORE's parameters (41_arbiter.md R181, which the spec marks as derived from
R180). -/
def Obligations.SleepMappingOfTwcore : Prop :=
  ∀ (s : State) (v0 v1 v2 v3 v4 : Nat), s.PortOpen → s.cfg = Config.twcore →
    s.vote = [v0, v1, v2, v3, v4] →
    ((v0 ≠ 0 ∨ v1 ≠ 0) → exec .emSleep s = .next { s with resp := 0xFFFFFFFF#32 })
    ∧ (v0 = 0 → v1 = 0 → v2 ≠ 0 →
      exec .emSleep s = .next { s with pwr := s.pwr ++ [.sleep 1], asleep := true, resp := 1#32 })
    ∧ (v0 = 0 → v1 = 0 → v2 = 0 → v3 ≠ 0 →
      exec .emSleep s = .next { s with pwr := s.pwr ++ [.sleep 2], asleep := true, resp := 2#32 })
    ∧ (v0 = 0 → v1 = 0 → v2 = 0 → v3 = 0 →
      exec .emSleep s = .next { s with pwr := s.pwr ++ [.sleep 3], asleep := true, resp := 3#32 })

/-- EM_SLEEP requests only a depth between 1 and DEEPEST_SLEEP (60_exceptions.md R345) that is shallower
than every blocked depth, so never a depth that stops the clock of an engine that works and whose vote is
still counted (70_reset_and_hazards.md R383 (b), which the spec marks as derived from R180). -/
def Obligations.SleepStaysAboveEveryBlockedDepth : Prop :=
  ∀ s : State, s.PortOpen → s.cfg.ok = true →
    ∃ t, exec .emSleep s = .next t
      ∧ (t.pwr = s.pwr
        ∨ ∃ k, t.pwr = s.pwr ++ [.sleep k] ∧ 1 ≤ k ∧ k ≤ s.cfg.deepestSleep
          ∧ (∀ d, d < s.cfg.nDepths → s.voteAt d ≠ 0 → k < d)
          ∧ (s.VotesBacked → (s.bus0.busy = true ∨ s.bus1.busy = true) → k < s.cfg.busBlockDepth)
          ∧ (s.VotesBacked → s.sr.busy = true → k < s.cfg.serBlockDepth))

/-- Balanced voting: a sequence of votes and releases in which no counter is ever released below 0 or
brought to VOTE_BOUND raises no Fatal, and changes each counter by its votes less its releases; where every
vote is matched, that is by nothing (41_arbiter.md R182, which the spec marks as derived from R174). -/
def Obligations.BalancedVotingReturnsToItsStart : Prop :=
  ∀ (s : State) (os : List VoteOp), s.PortOpen → s.Shape → s.cfg.voteBound < 2 ^ s.cfg.voteW →
    (∀ o, o ∈ os → o.depth.toNat < s.cfg.nDepths) →
    (∀ (p : List VoteOp) (d : Nat), p <+: os → d < s.cfg.nDepths →
      0 ≤ (s.voteAt d : Int) + tally d p ∧ (s.voteAt d : Int) + tally d p < s.cfg.voteBound) →
    ∃ t, execAll (os.map VoteOp.instr) s = some t ∧ t.fatal = false
      ∧ ∀ d, d < s.cfg.nDepths → (t.voteAt d : Int) = s.voteAt d + tally d os

/-! ### Bus transaction engine (42_bus_engine.md) -/

/-- BUS_OPEN n: on an unopened engine it emits the six recovery actions in order, sets B[n].recov and
CMDBUSY, writes RESP <- 0 and changes nothing else; on an open one it raises Fatal(BUSn, SEQUENCE) with the
FSM state in INFO_A (42_bus_engine.md R205). -/
def Obligations.BusOpenBeginsRecovery : Prop :=
  ∀ (s : State) (n : BusId), s.PortOpen →
    encode (.busOpen n) = .command (if n = .bus0 then 0x48000000#32 else 0x4C000000#32)
    ∧ ((s.bus n).opened = false →
      exec (.busOpen n) s = .next (({ s with cmdBusy := true, resp := 0#32 }.setBus n
        { s.bus n with recov := true }).emitBus n [.abort, .ienSaveZero, .ifc, .clrTx, .start, .stop]))
    ∧ ((s.bus n).opened = true →
      exec (.busOpen n) s = .next { s with
        fatal := true, funit := (if n = .bus0 then 3#4 else 4#4), fcause := 0x03#8,
        finfo := 0#19 ++ 0b01001#5 ++ 0#5 ++ (s.bus n).st.code })

/-- MSTOP during recovery finishes BUS_OPEN: it emits IFC, ABORT, IEN_RESTORE, opens the engine, makes it
available in INIT_WRITE, clears B[n].recov and CMDBUSY and wakes the host (42_bus_engine.md R232). -/
def Obligations.MstopFinishesRecovery : Prop :=
  ∀ (s : State) (n : BusId) (data : Byte), s.fatal = false → (s.bus n).recov = true →
    exec (busInstr n .mstop data) s = .next (({ s with cmdBusy := false, asleep := false }.setBus n
      { s.bus n with recov := false, opened := true, avail := true, st := .initWrite }).emitBus n
        [.ifc, .abort, .ienRestore])

/-- BUS_START on an open, available engine of an idle bus, with a legal count and room for a vote: it adds
the vote against BUS_BLOCK_DEPTH, stores all parameters, takes OPND as the word of a write (its
DATA_W / 8 bytes, entry k bits 8k+7 to 8k) and 0 as that of a read, goes to INIT_WRITE, unavailable, emits START_W(dev), writes RESP <- 0 and changes nothing else
(42_bus_engine.md R210; the change of width where DATA_W is not 32 is the model's, log 8). -/
def Obligations.BusStartBeginsATransaction : Prop :=
  ∀ (s : State) (n : BusId) (dir : Dir) (cnt : BitVec 3) (dev : BitVec 7) (reg : Byte) (evt : BitVec 5),
    s.PortOpen → 1 ≤ cnt.toNat → cnt.toNat ≤ s.cfg.maxBytes → (s.bus n).opened = true → (s.bus n).avail = true →
    s.busIdle n = true → s.voteAt s.cfg.busBlockDepth + 1 < s.cfg.voteBound →
    exec (.busStart n dir cnt dev reg evt) s = .next (({ s with
        vote := s.vote.set s.cfg.busBlockDepth ((s.voteAt s.cfg.busBlockDepth + 1) % 2 ^ s.cfg.voteW)
        resp := 0#32 }.setBus n
      { opened := true, recov := (s.bus n).recov, avail := false, st := .initWrite,
        word := (if dir = Dir.write
          then (List.range (s.cfg.dataW / 8)).map (fun k => s.opnd.extractLsb' (8 * k) 8)
          else List.replicate (s.cfg.dataW / 8) 0#8),
        cnt := cnt, dev := dev, reg := reg, dir := dir, evt := evt }).emitBus n [.startW dev])

/-- The faults of BUS_START with a legal count, in the order of their checks: SEQUENCE on an unopened
engine, BUS_NOT_IDLE on a bus that is not idle, VOTE_OVERFLOW where the vote has no room (42_bus_engine.md
R210, 60_exceptions.md R314). -/
def Obligations.BusStartFaultsInOrder : Prop :=
  ∀ (s : State) (n : BusId) (dir : Dir) (cnt : BitVec 3) (dev : BitVec 7) (reg : Byte) (evt : BitVec 5),
    s.PortOpen → 1 ≤ cnt.toNat → cnt.toNat ≤ s.cfg.maxBytes →
    ((s.bus n).opened = false →
      exec (.busStart n dir cnt dev reg evt) s = .next { s with
        fatal := true, funit := (if n = .bus0 then 3#4 else 4#4), fcause := 0x03#8,
        finfo := 0#19 ++ 0b01010#5 ++ 0#5 ++ (s.bus n).st.code })
    ∧ ((s.bus n).opened = true → (s.bus n).avail = true → s.busIdle n = false →
      exec (.busStart n dir cnt dev reg evt) s = .next { s with
        fatal := true, funit := (if n = .bus0 then 3#4 else 4#4), fcause := 0x06#8,
        finfo := 0#19 ++ 0b01010#5 ++ 0#5 ++ (s.bus n).st.code })
    ∧ ((s.bus n).opened = true → (s.bus n).avail = true → s.busIdle n = true →
      s.cfg.voteBound ≤ s.voteAt s.cfg.busBlockDepth + 1 →
      exec (.busStart n dir cnt dev reg evt) s = .next { s with
        fatal := true, funit := 2#4, fcause := 0x04#8,
        finfo := 0#19 ++ 0b01010#5 ++ BitVec.ofNat 8 s.cfg.busBlockDepth })

/-- A BUS_START to an open engine that is not available holds, whatever the bus line and the votes, and so
does a SER_START to an open serial engine that is not: nothing changes but that the host has the write
pending (42_bus_engine.md R211, 43_serial_engine.md R257, which the spec marks as derived from R210 and
R255; that the write is kept in the state is the model's, log 3). -/
def Obligations.StartsHoldWhileBusy : Prop :=
  ∀ s : State, s.PortOpen →
    (∀ (n : BusId) (dir : Dir) (cnt : BitVec 3) (dev : BitVec 7) (reg : Byte) (evt : BitVec 5) (w : Word),
      1 ≤ cnt.toNat → cnt.toNat ≤ s.cfg.maxBytes → (s.bus n).opened = true → (s.bus n).avail = false →
      encode (.busStart n dir cnt dev reg evt) = .command w →
      exec (.busStart n dir cnt dev reg evt) s = .next { s with held := some w })
    ∧ (∀ (len : Byte) (w : Word), len.toNat ≤ s.cfg.serMaxLen → s.sr.opened = true → s.sr.avail = false →
      encode (.serStart len) = .command w → exec (.serStart len) s = .next { s with held := some w })

/-- BUS_AVAIL n (0x58000000, 0x5C000000) and SER_AVAIL (0x78000000) answer the availability flag as 0 or 1,
BUS_RDATA n (0x60000000, 0x64000000) the data word as it stands (its bytes 3 to 0, a byte past DATA_W being 0);
each changes RESP alone and holds for no
state of its engine (42_bus_engine.md R212, R213, 43_serial_engine.md R256; the change of width where DATA_W
is not 32 is the model's, log 8). -/
def Obligations.QueriesAnswerInResp : Prop :=
  (∀ n : BusId,
    encode (.busAvail n) = .command (if n = .bus0 then 0x58000000#32 else 0x5C000000#32)
      ∧ encode (.busRdata n) = .command (if n = .bus0 then 0x60000000#32 else 0x64000000#32))
  ∧ encode .serAvail = .command 0x78000000#32
  ∧ ∀ s : State, s.PortOpen →
    (∀ n : BusId,
      exec (.busAvail n) s = .next { s with resp := (if (s.bus n).avail then 1#32 else 0#32) }
        ∧ exec (.busRdata n) s = .next { s with
          resp := (s.bus n).word.getD 3 0#8 ++ (s.bus n).word.getD 2 0#8 ++ (s.bus n).word.getD 1 0#8
            ++ (s.bus n).word.getD 0 0#8 })
    ∧ exec .serAvail s = .next { s with resp := (if s.sr.avail then 1#32 else 0#32) }

/-- ACK to a working engine: in INIT_WRITE it sends the register address and goes to WRITE_DATA or
ADDR_FOR_READ by the direction; in ADDR_FOR_READ it issues the repeated START and goes to INIT_READ; in
WRITE_DATA it sends the most significant remaining byte and decrements the count, with STOP and AWAIT_STOP
after the last; in INIT_READ it does nothing but wake the host (42_bus_engine.md R216 to R219). -/
def Obligations.AckAdvancesTheEngine : Prop :=
  ∀ (s : State) (n : BusId) (data : Byte), s.BusWorks n → (s.bus n).Coherent s.cfg →
    ((s.bus n).st = .initWrite →
      exec (busInstr n .ack data) s = .next (({ s with asleep := false }.setBus n
        { s.bus n with st := (if (s.bus n).dir = Dir.write then .writeData else .addrForRead) }).emitBus n
          [.tx (s.bus n).reg]))
    ∧ ((s.bus n).st = .addrForRead →
      exec (busInstr n .ack data) s = .next (({ s with asleep := false }.setBus n
        { s.bus n with st := .initRead }).emitBus n [.rstartR (s.bus n).dev]))
    ∧ ((s.bus n).st = .writeData → (s.bus n).cnt = 1#3 →
      exec (busInstr n .ack data) s = .next (({ s with asleep := false }.setBus n
        { s.bus n with cnt := 0#3, st := .awaitStop }).emitBus n
          [.tx ((s.bus n).word.getD 0 0#8), .stop]))
    ∧ ((s.bus n).st = .writeData → (s.bus n).cnt ≠ 1#3 →
      exec (busInstr n .ack data) s = .next (({ s with asleep := false }.setBus n
        { s.bus n with cnt := BitVec.ofNat 3 ((s.bus n).cnt.toNat - 1) }).emitBus n
          [.tx ((s.bus n).word.getD ((s.bus n).cnt.toNat - 1) 0#8)]))
    ∧ ((s.bus n).st = .initRead →
      exec (busInstr n .ack data) s = .next { s with asleep := false })

/-- RXDATA to a working engine in INIT_READ: the byte takes its big-endian place, bits 8c+7 to 8c of the
word (its entry c) where c bytes remain after it, the other bytes stay; the count becomes c; with bytes to come the engine
acknowledges, after the last it sends NACK and STOP and goes to AWAIT_STOP (42_bus_engine.md R222, which writes the place for
DATA_W = 32; for another width it is the model's, log 8). -/
def Obligations.RxdataPlacesTheByte : Prop :=
  ∀ (s : State) (n : BusId) (b : Byte), s.BusWorks n → (s.bus n).Coherent s.cfg → (s.bus n).Unfilled →
    s.Shape → s.cfg.ok = true → (s.bus n).st = .initRead →
    ∃ w : List Byte, w.length = (s.bus n).word.length
      ∧ (∀ k, w.getD k 0#8 =
        (if k = (s.bus n).cnt.toNat - 1 then b else (s.bus n).word.getD k 0#8))
      ∧ ((s.bus n).cnt ≠ 1#3 →
        exec (busInstr n .rxdata b) s = .next (({ s with asleep := false }.setBus n
          { s.bus n with word := w, cnt := BitVec.ofNat 3 ((s.bus n).cnt.toNat - 1) }).emitBus n [.ack]))
      ∧ ((s.bus n).cnt = 1#3 →
        exec (busInstr n .rxdata b) s = .next (({ s with asleep := false }.setBus n
          { s.bus n with word := w, cnt := 0#3, st := .awaitStop }).emitBus n [.nack, .stop]))

/-- MSTOP to a working engine in AWAIT_STOP: where the engine's vote is counted, it is released, the engine
is available in INIT_WRITE and its completion event is posted, in one step; where VOTE[BUS_BLOCK_DEPTH] is 0
it raises Fatal(ARB, VOTE_UNDERFLOW) and completes nothing (42_bus_engine.md R230, 70_reset_and_hazards.md
R364). -/
def Obligations.MstopCompletesATransaction : Prop :=
  ∀ (s : State) (n : BusId) (data : Byte), s.BusWorks n → (s.bus n).st = .awaitStop →
    (s.voteAt s.cfg.busBlockDepth ≠ 0 →
      ∃ e, exec (busInstr n .mstop data) s = .next ({ s with
          asleep := false
          vote := s.vote.set s.cfg.busBlockDepth ((s.voteAt s.cfg.busBlockDepth - 1) % 2 ^ s.cfg.voteW)
          evt := e }.setBus n { s.bus n with avail := true, st := .initWrite })
        ∧ ∀ j, j < 32 → e.getLsbD j = (s.evt.getLsbD j || decide (j = (s.bus n).evt.toNat)))
    ∧ (s.voteAt s.cfg.busBlockDepth = 0 →
      exec (busInstr n .mstop data) s = .next { s with
        fatal := true, funit := 2#4, fcause := 0x05#8,
        finfo := 0#18 ++ 1#1 ++ (if n = .bus0 then 0#3 else 1#3) ++ 2#2
          ++ BitVec.ofNat 8 s.cfg.busBlockDepth })

/-- A bus condition that its engine's state cannot receive raises Fatal(BUSn) with the condition's
wrong-state cause and the state code in INFO_A, and commits nothing else: to a working engine ACK in
AWAIT_STOP, RXDATA outside INIT_READ, MSTOP outside AWAIT_STOP (42_bus_engine.md R225); to an available
engine every condition (R226). -/
def Obligations.WrongBusConditionsFault : Prop :=
  ∀ (s : State) (n : BusId) (data : Byte), s.fatal = false → (s.bus n).recov = false →
    (s.bus n).opened = true →
    (((s.bus n).avail = true ∨ (s.bus n).st = .awaitStop) →
      exec (busInstr n .ack data) s = .next { s with
        fatal := true, funit := (if n = .bus0 then 3#4 else 4#4), fcause := 0x07#8,
        finfo := 0#18 ++ 1#1 ++ (if n = .bus0 then 0#3 else 1#3) ++ 0#2 ++ 0#5 ++ (s.bus n).st.code })
    ∧ (((s.bus n).avail = true ∨ (s.bus n).st ≠ .initRead) →
      exec (busInstr n .rxdata data) s = .next { s with
        fatal := true, funit := (if n = .bus0 then 3#4 else 4#4), fcause := 0x08#8,
        finfo := 0#18 ++ 1#1 ++ (if n = .bus0 then 0#3 else 1#3) ++ 1#2 ++ 0#5 ++ (s.bus n).st.code })
    ∧ (((s.bus n).avail = true ∨ (s.bus n).st ≠ .awaitStop) →
      exec (busInstr n .mstop data) s = .next { s with
        fatal := true, funit := (if n = .bus0 then 3#4 else 4#4), fcause := 0x09#8,
        finfo := 0#18 ++ 1#1 ++ (if n = .bus0 then 0#3 else 1#3) ++ 2#2 ++ 0#5 ++ (s.bus n).st.code })

/-- During recovery ACK and RXDATA do nothing but wake the host (42_bus_engine.md R233), and so does every
condition of an engine that is neither open nor recovering (R234). -/
def Obligations.DiscardedBusConditionsOnlyWake : Prop :=
  ∀ (s : State) (n : BusId) (c : BusCond) (data : Byte), s.fatal = false →
    (((s.bus n).recov = true ∧ c ≠ .mstop) ∨ ((s.bus n).recov = false ∧ (s.bus n).opened = false)) →
    exec (busInstr n c data) s = .next { s with asleep := false }

/-- A command or condition for one bus engine neither reads nor writes the other's record or trace: with
another record and another trace there, it does the same and leaves them (10_state.md R39). -/
def Obligations.BusEnginesAreIndependent : Prop :=
  ∀ (i : Instr) (n m : BusId) (s : State) (b : BusEngine) (as : List BusAction),
    busOf i = some n → m ≠ n →
    exec i ((s.setBus m b).emitBus m as) = onNext (fun t => (t.setBus m b).emitBus m as) (exec i s)

/-- A whole read of N bytes: BUS_START, two ACK, N RXDATA, MSTOP. It leaves the big-endian concatenation of
the bytes in the word (its entry k the (k+1)-th byte from the end, the entries past N 0; up to four bytes it
reads through BUS_RDATA as their number), the engine available, every vote as before, exactly the completion event posted, and
START_W, TX(reg), RSTART_R, N - 1 ACK, NACK, STOP on the bus (42_bus_engine.md R237, which the spec marks as
derived from R210 to R230;
for a DATA_W that is not 32 also log 8). -/
def Obligations.ReadTransactionAssemblesTheBytes : Prop :=
  ∀ (s : State) (n : BusId) (cnt : BitVec 3) (dev : BitVec 7) (reg : Byte) (evt : BitVec 5)
    (bs : List Byte),
    s.PortOpen → s.Shape → s.cfg.ok = true → s.VotesBounded → (s.bus n).recov = false →
    (s.bus n).opened = true →
    (s.bus n).avail = true → s.busIdle n = true → s.voteAt s.cfg.busBlockDepth + 1 < s.cfg.voteBound →
    1 ≤ cnt.toNat → cnt.toNat ≤ s.cfg.maxBytes → bs.length = cnt.toNat →
    ∃ t, execAll (.busStart n .read cnt dev reg evt :: busInstr n .ack 0#8 :: busInstr n .ack 0#8
        :: (bs.map (busInstr n .rxdata) ++ [busInstr n .mstop 0#8])) s = some t
      ∧ t.fatal = false ∧ (t.bus n).word.length = s.cfg.wordLen
      ∧ (∀ k, (t.bus n).word.getD k 0#8 = (if k < cnt.toNat then bs.getD (cnt.toNat - 1 - k) 0#8 else 0#8))
      ∧ (cnt.toNat ≤ 4 → exec (.busRdata n) t = .next { t with resp := bigEndian bs })
      ∧ (t.bus n).avail = true ∧ t.vote = s.vote
      ∧ (∀ j, j < 32 → t.evt.getLsbD j = (s.evt.getLsbD j || decide (j = evt.toNat)))
      ∧ t.busphy n = s.busphy n ++ [.startW dev, .tx reg, .rstartR dev]
          ++ List.replicate (cnt.toNat - 1) .ack ++ [.nack, .stop]

/-- A whole write of N bytes: BUS_START, N + 1 ACK, MSTOP. It puts START_W, the register address, the low N
bytes of OPND most significant first, and STOP on the bus, leaves the engine available, every vote as before
and exactly the completion event posted (42_bus_engine.md R237, which the spec marks as derived from R210 to R230;
for a DATA_W that is not 32 also log 8). -/
def Obligations.WriteTransactionSendsTheBytes : Prop :=
  ∀ (s : State) (n : BusId) (cnt : BitVec 3) (dev : BitVec 7) (reg : Byte) (evt : BitVec 5),
    s.PortOpen → s.Shape → s.cfg.ok = true → s.VotesBounded → (s.bus n).recov = false →
    (s.bus n).opened = true →
    (s.bus n).avail = true → s.busIdle n = true → s.voteAt s.cfg.busBlockDepth + 1 < s.cfg.voteBound →
    1 ≤ cnt.toNat → cnt.toNat ≤ s.cfg.maxBytes →
    ∃ t, execAll (.busStart n .write cnt dev reg evt
        :: (List.replicate (cnt.toNat + 1) (busInstr n .ack 0#8) ++ [busInstr n .mstop 0#8])) s = some t
      ∧ t.fatal = false ∧ (t.bus n).avail = true ∧ t.vote = s.vote
      ∧ (∀ j, j < 32 → t.evt.getLsbD j = (s.evt.getLsbD j || decide (j = evt.toNat)))
      ∧ t.busphy n = s.busphy n ++ [.startW dev, .tx reg]
          ++ (List.range cnt.toNat).map (fun k => .tx (s.opnd.extractLsb' (8 * (cnt.toNat - 1 - k)) 8))
          ++ [.stop]

/-! ### Serial transmit engine (43_serial_engine.md) -/

/-- SER_OPEN idx: on an unopened engine it opens it, makes it available in WRITE_DATA with the event idx,
length and cursor 0, writes RESP <- 0 and changes nothing else, emitting nothing; on an open one it raises
Fatal(SER, SEQUENCE) with the FSM state in INFO_A (43_serial_engine.md R252). -/
def Obligations.SerOpenMakesTheEngineReady : Prop :=
  ∀ (s : State) (idx : BitVec 5), s.PortOpen →
    encode (.serOpen idx) = .command (0x68000000#32 ||| idx.setWidth 32)
    ∧ (s.sr.opened = false →
      exec (.serOpen idx) s = .next { s with
        sr := { s.sr with opened := true, avail := true, st := .writeData, evt := idx, len := 0#8,
                          cur := 0#8 }
        resp := 0#32 })
    ∧ (s.sr.opened = true →
      exec (.serOpen idx) s = .next { s with
        fatal := true, funit := 5#4, fcause := 0x03#8,
        finfo := 0#19 ++ 0b01101#5 ++ 0#7 ++ s.sr.st.code })

/-- SER_START len with a legal length: on an open, available engine with room for a vote it adds the vote
against SER_BLOCK_DEPTH, copies the first len bytes of STAGE and keeps the other payload bytes, sets length,
cursor 0, WRITE_DATA and the buffer-empty enable, emits IEN_TXBL(1), writes RESP <- 0 and changes nothing
else; on an unopened engine it raises SEQUENCE, without room VOTE_OVERFLOW (43_serial_engine.md R255). -/
def Obligations.SerStartBeginsATransmission : Prop :=
  ∀ (s : State) (len : Byte), s.PortOpen → s.Shape → len.toNat ≤ s.cfg.serMaxLen →
    (s.sr.opened = true → s.sr.avail = true → s.voteAt s.cfg.serBlockDepth + 1 < s.cfg.voteBound →
      ∃ p : List Byte, exec (.serStart len) s = .next { s with
          vote := s.vote.set s.cfg.serBlockDepth ((s.voteAt s.cfg.serBlockDepth + 1) % 2 ^ s.cfg.voteW)
          sr := { s.sr with avail := false, pay := p, len := len, cur := 0#8, st := .writeData,
                            ienTxbl := true }
          serphy := s.serphy ++ [.ienTxbl true]
          resp := 0#32 }
        ∧ p.length = s.cfg.serMaxLen
        ∧ ∀ k, k < s.cfg.serMaxLen →
          p.getD k 0#8 = (if k < len.toNat then s.stage.getD k 0#8 else s.sr.pay.getD k 0#8))
    ∧ (s.sr.opened = false →
      exec (.serStart len) s = .next { s with
        fatal := true, funit := 5#4, fcause := 0x03#8,
        finfo := 0#19 ++ 0b01110#5 ++ 0#7 ++ s.sr.st.code })
    ∧ (s.sr.opened = true → s.sr.avail = true → s.cfg.voteBound ≤ s.voteAt s.cfg.serBlockDepth + 1 →
      exec (.serStart len) s = .next { s with
        fatal := true, funit := 2#4, fcause := 0x04#8,
        finfo := 0#19 ++ 0b01110#5 ++ BitVec.ofNat 8 s.cfg.serBlockDepth })

/-- TXBL to a working engine in WRITE_DATA, as two tests made in turn: a byte below the length goes out and
the cursor advances; where the cursor then stands at the length, the byte phase ends: IEN_TXBL(0), STOP,
IEN_TXC(1) (43_serial_engine.md R258, 90_conflicts.md C3). -/
def Obligations.TxblSendsTheNextByte : Prop :=
  ∀ (s : State) (data : Byte), s.SerWorks → s.SerCoherent → s.sr.st = .writeData →
    (s.sr.cur.toNat + 1 < s.sr.len.toNat →
      exec (.serTxbl data) s = .next { s with
        asleep := false
        sr := { s.sr with cur := BitVec.ofNat 8 (s.sr.cur.toNat + 1) }
        serphy := s.serphy ++ [.tx (s.sr.pay.getD s.sr.cur.toNat 0#8)] })
    ∧ (s.sr.cur.toNat + 1 = s.sr.len.toNat →
      exec (.serTxbl data) s = .next { s with
        asleep := false
        sr := { s.sr with cur := s.sr.len, ienTxbl := false, st := .stop, ienTxc := true }
        serphy := s.serphy ++ [.tx (s.sr.pay.getD s.sr.cur.toNat 0#8), .ienTxbl false, .ienTxc true] })
    ∧ (s.sr.cur = s.sr.len →
      exec (.serTxbl data) s = .next { s with
        asleep := false
        sr := { s.sr with ienTxbl := false, st := .stop, ienTxc := true }
        serphy := s.serphy ++ [.ienTxbl false, .ienTxc true] })

/-- TXC to a working engine in STOP: where the engine's vote is counted, it emits IEN_TXC(0), goes to
WRITE_DATA, available, releases the vote and posts SR.evt, in one step; where VOTE[SER_BLOCK_DEPTH] is 0 it
raises Fatal(ARB, VOTE_UNDERFLOW) and completes nothing (43_serial_engine.md R262, 90_conflicts.md C2). -/
def Obligations.TxcCompletesATransmission : Prop :=
  ∀ (s : State) (data : Byte), s.SerWorks → s.sr.st = .stop →
    (s.voteAt s.cfg.serBlockDepth ≠ 0 →
      ∃ e, exec (.serTxc data) s = .next { s with
          asleep := false
          sr := { s.sr with ienTxc := false, st := .writeData, avail := true }
          vote := s.vote.set s.cfg.serBlockDepth ((s.voteAt s.cfg.serBlockDepth - 1) % 2 ^ s.cfg.voteW)
          evt := e
          serphy := s.serphy ++ [.ienTxc false] }
        ∧ ∀ j, j < 32 → e.getLsbD j = (s.evt.getLsbD j || decide (j = s.sr.evt.toNat)))
    ∧ (s.voteAt s.cfg.serBlockDepth = 0 →
      exec (.serTxc data) s = .next { s with
        fatal := true, funit := 2#4, fcause := 0x05#8,
        finfo := 0#18 ++ 1#1 ++ 2#3 ++ 1#2 ++ BitVec.ofNat 8 s.cfg.serBlockDepth })

/-- A serial condition its engine's state cannot receive raises Fatal(SER) with its wrong-state cause and
the state code in INFO_A: TXBL in STOP, TXC in WRITE_DATA, both when available (43_serial_engine.md R265,
R266); to an unopened engine both do nothing but wake the host (R267). -/
def Obligations.WrongSerialConditions : Prop :=
  ∀ (s : State) (data : Byte), s.fatal = false →
    (s.sr.opened = true → (s.sr.avail = true ∨ s.sr.st = .stop) →
      exec (.serTxbl data) s = .next { s with
        fatal := true, funit := 5#4, fcause := 0x0A#8,
        finfo := 0#18 ++ 1#1 ++ 2#3 ++ 0#2 ++ 0#7 ++ s.sr.st.code })
    ∧ (s.sr.opened = true → (s.sr.avail = true ∨ s.sr.st = .writeData) →
      exec (.serTxc data) s = .next { s with
        fatal := true, funit := 5#4, fcause := 0x0B#8,
        finfo := 0#18 ++ 1#1 ++ 2#3 ++ 1#2 ++ 0#7 ++ s.sr.st.code })
    ∧ (s.sr.opened = false →
      exec (.serTxbl data) s = .next { s with asleep := false }
        ∧ exec (.serTxc data) s = .next { s with asleep := false })

/-- A whole transmission of L bytes: SER_START, max(L, 1) TXBL, TXC. It puts IEN_TXBL(1), the first L bytes
of STAGE in index order, IEN_TXBL(0), IEN_TXC(1), IEN_TXC(0) on SERPHY, leaves the channel available, every
vote as before and exactly SR.evt posted (43_serial_engine.md R271, which the spec marks as derived from
R255 to R262). -/
def Obligations.TransmissionSendsThePayload : Prop :=
  ∀ (s : State) (len : Byte), s.PortOpen → s.Shape → s.cfg.ok = true → s.VotesBounded →
    s.sr.opened = true →
    s.sr.avail = true → len.toNat ≤ s.cfg.serMaxLen →
    s.voteAt s.cfg.serBlockDepth + 1 < s.cfg.voteBound →
    ∃ t, execAll (.serStart len :: (List.replicate (max len.toNat 1) (.serTxbl 0#8) ++ [.serTxc 0#8])) s
        = some t
      ∧ t.fatal = false ∧ t.sr.avail = true ∧ t.vote = s.vote
      ∧ (∀ j, j < 32 → t.evt.getLsbD j = (s.evt.getLsbD j || decide (j = s.sr.evt.toNat)))
      ∧ t.serphy = s.serphy ++ [.ienTxbl true] ++ (s.stage.take len.toNat).map .tx
          ++ [.ienTxbl false, .ienTxc true, .ienTxc false]

/-! ### Host interface (44_host_interface.md) -/

/-- A 32-bit read at an aligned offset returns what the address map gives it and changes no state: 0 for CMD
and for a reserved offset, RESP, STATUS, FINFO, OPND, TMRCFG with its reserved bits 0, the four bytes of a
STAGE word in little-endian lanes with 0 past the buffer (44_host_interface.md R281, 20_memory.md R85). -/
def Obligations.RegisterReads : Prop :=
  ∀ (s : State) (off : Nat), s.Shape → s.cfg.serMaxLen ≤ 255 → off < 0x200 → off % 4 = 0 →
    ∃ v : Word, readAccess (s.cfg.base + off) 4 s = (v, s)
      ∧ (off = 0x000 → v = 0#32) ∧ (off = 0x004 → v = s.resp) ∧ (off = 0x008 → v = s.status)
      ∧ (off = 0x00C → v = s.finfo) ∧ (off = 0x010 → v = s.opnd)
      ∧ (off = 0x014 → v = s.tmrCfg &&& 0x071F1F1F#32)
      ∧ (0x018 ≤ off → off < 0x100 → v = 0#32)
      ∧ (0x100 ≤ off → ∀ j, j < 4 →
        v.extractLsb' (8 * j) 8 =
          (if off - 0x100 + j < s.cfg.serMaxLen then s.stage.getD (off - 0x100 + j) 0#8 else 0#8))

/-- STATUS: a read at 0x008 returns the word with the fields of 10_state.md R62, a write there is ignored,
and the word is 0 at reset. -/
def Obligations.StatusShowsTheFlags : Prop :=
  State.reset.readReg .status = 0#32
  ∧ ∀ s : State, (∀ v : Word, writeAccess (s.cfg.base + 0x008) 4 v s = .next s)
    ∧ ∃ w : Word, readAccess (s.cfg.base + 0x008) 4 s = (w, s)
      ∧ w.getLsbD 0 = s.fatal ∧ w.getLsbD 1 = s.cmdBusy ∧ w.extractLsb' 2 2 = 0#2
      ∧ w.extractLsb' 4 4 = s.funit ∧ w.extractLsb' 8 8 = s.fcause
      ∧ w.getLsbD 16 = s.bus0.avail ∧ w.getLsbD 17 = s.bus1.avail ∧ w.getLsbD 18 = s.sr.avail
      ∧ w.getLsbD 19 = s.bus0.opened ∧ w.getLsbD 20 = s.bus1.opened ∧ w.getLsbD 21 = s.sr.opened
      ∧ w.getLsbD 22 = s.bus0.recov ∧ w.getLsbD 23 = s.bus1.recov
      ∧ w.extractLsb' 24 3 = s.bus0.st.code ∧ w.extractLsb' 27 3 = s.bus1.st.code
      ∧ w.extractLsb' 30 1 = s.sr.st.code ∧ w.getLsbD 31 = false

/-- A 32-bit write at an aligned offset, at any time, also while an engine works and while FATAL = 1: OPND
takes the value, TMRCFG its existing bits, a STAGE word its four lanes as far as the buffer goes; the
read-only registers and the reserved offsets ignore it; nothing else changes (44_host_interface.md R282,
20_memory.md R85). -/
def Obligations.RegisterWrites : Prop :=
  ∀ (s : State) (off : Nat) (v : Word), s.Shape → s.cfg.serMaxLen ≤ 255 → off < 0x200 → off % 4 = 0 →
    (off = 0x010 → writeAccess (s.cfg.base + off) 4 v s = .next { s with opnd := v })
    ∧ (off = 0x014 → writeAccess (s.cfg.base + off) 4 v s = .next { s with tmrCfg := v &&& 0x071F1F1F#32 })
    ∧ (0x100 ≤ off → ∃ l : List Byte,
      writeAccess (s.cfg.base + off) 4 v s = .next { s with stage := l } ∧ l.length = s.stage.length
        ∧ ∀ k, k < l.length → l.getD k 0#8 =
          (if off - 0x100 ≤ k ∧ k < off - 0x100 + 4 then v.extractLsb' (8 * (k - (off - 0x100))) 8
            else s.stage.getD k 0#8))
    ∧ ((off = 0x004 ∨ off = 0x008 ∨ off = 0x00C ∨ (0x018 ≤ off ∧ off < 0x100)) →
      writeAccess (s.cfg.base + off) 4 v s = .next s)
    ∧ (off = 0x000 → writeAccess (s.cfg.base + off) 4 v s = cmdWrite v s)

/-- An access to the register space with a width other than 4 or a misaligned offset raises Fatal(HOSTIF,
ACCESS) with the width in INFO_A and the offset in INFO_B, a read answering 0; with FATAL = 1 already it has
no effect (44_host_interface.md R284). -/
def Obligations.IllegalAccessFaults : Prop :=
  ∀ (s : State) (off width : Nat) (v : Word), off < 0x200 → (width ≠ 4 ∨ off % 4 ≠ 0) →
    (s.fatal = false →
      readAccess (s.cfg.base + off) width s = (0#32, { s with
          fatal := true, funit := 0#4, fcause := 0x0D#8,
          finfo := BitVec.ofNat 16 off ++ 0#8 ++ BitVec.ofNat 8 width })
        ∧ writeAccess (s.cfg.base + off) width v s = .next { s with
          fatal := true, funit := 0#4, fcause := 0x0D#8,
          finfo := BitVec.ofNat 16 off ++ 0#8 ++ BitVec.ofNat 8 width })
    ∧ (s.fatal = true →
      readAccess (s.cfg.base + off) width s = (0#32, s)
        ∧ writeAccess (s.cfg.base + off) width v s = .next s)

/-! ### Steps of the agents (00_scope.md R5, 20_memory.md R92) -/

/-- A step runs the decoded instruction: on the host's turn, with the host awake and nothing held, a 32-bit
write to CMD of a word that decodes to i is exec of i on the state without that turn and that access, where
the port is open; the delivery of a condition word that decodes to i is exec of i on the state without that
turn.  That the next step is the first entry of `turns` is the model's (log 1, DESIGN CHOICE), and so is that
the host's next access is the head of `program` (log 13, DEDUCED; log 2 says how it comes there). -/
def Obligations.StepRunsTheDecodedInstruction : Prop :=
  (∀ (s : State) (w : Word) (i : Instr) (as : List Access) (rest : List Turn),
    s.PortOpen → s.asleep = false → s.held = none → s.turns = .host :: rest →
    s.program = .write s.cfg.base 4 w :: as → decode (.command w) = .ok i →
    step s = exec i { s with turns := rest, program := as })
  ∧ (∀ (s : State) (w : BitVec 13) (i : Instr) (rest : List Turn),
    s.turns = .cond w :: rest → decode (.condition w) = .ok i → step s = exec i { s with turns := rest })

/-- The held CMD write: on the host's turn, and on a turn that rechecks it, the host awake, it is examined
again from the start, before any other access of the host (44_host_interface.md R283, 00_scope.md R13).
While HOST.asleep = 1 the host takes no step (R287).  That the write is kept, and examined on a turn of the
host or a recheck turn but not while the host sleeps, is the model's form of it (log 3, DEDUCED), and so is the
order of turns (log 1, DESIGN CHOICE). -/
def Obligations.HostWaitsOnItsHeldWrite : Prop :=
  ∀ (s : State) (turn : Turn) (rest : List Turn), s.turns = turn :: rest →
    (turn = .host ∨ turn = .recheck) →
    (∀ w, s.asleep = false → s.held = some w →
      step s = cmdWrite w { s with turns := rest, held := none })
    ∧ (s.asleep = true → step s = .next { s with turns := rest })

/-! ### Whole-machine rules -/

/-- Fatal is precise: the step that sets FATAL changes FATAL, FUNIT, FCAUSE and FINFO alone
(60_exceptions.md R315, 00_scope.md R12): so for every instruction, and so for every step of an agent, which
besides these only moves the agent itself on (the turn taken, the host's access issued, its held write
examined, what its read returned). -/
def Obligations.FatalIsPrecise : Prop :=
  ∀ s : State, s.fatal = false →
    (∀ i : Instr, ∃ t, exec i s = .next t
      ∧ (t.fatal = true →
        t = { s with fatal := true, funit := t.funit, fcause := t.fcause, finfo := t.finfo }))
    ∧ ∀ (turn : Turn) (rest : List Turn), s.turns = turn :: rest →
      ∃ t, step s = .next t
        ∧ (t.fatal = true →
          t = { s with
            fatal := true, funit := t.funit, fcause := t.fcause, finfo := t.finfo,
            turns := rest, program := t.program, held := t.held, rdata := t.rdata,
            probeData := t.probeData })

/-- The halted state: with FATAL = 1 every step but power-on reset leaves the fatal record, the engines,
EVT, VOTE, RESP, CMDBUSY, HOST.asleep and every trace as they are; only the host's own position, OPND,
TMRCFG, STAGE, what a read returned and the ENV lines may change (60_exceptions.md R316, R317). -/
def Obligations.FatalIsSticky : Prop :=
  ∀ (s : State) (turn : Turn) (rest : List Turn), s.fatal = true → s.turns = turn :: rest →
    turn ≠ .powerOn →
    ∃ t, step s = .next t
      ∧ t = { s with
        turns := rest, opnd := t.opnd, tmrCfg := t.tmrCfg, stage := t.stage, held := t.held,
        program := t.program, loop := t.loop, rdata := t.rdata, probeData := t.probeData,
        busIdle0 := t.busIdle0, busIdle1 := t.busIdle1, draws := t.draws }

/-- Every delivered condition that does not raise Fatal, with FATAL = 0, sets HOST.asleep to 0, discarded
ones included (60_exceptions.md R333). -/
def Obligations.ConditionsWakeTheHost : Prop :=
  ∀ (i : Instr) (w : BitVec 13) (s : State), encode i = .condition w → s.fatal = false →
    ∃ t, exec i s = .next t ∧ (t.fatal = false → t.asleep = false)

/-- No condition writes RESP (44_host_interface.md R285, which the spec marks as derived from the commands'
rules), OPND, TMRCFG, STAGE or the PWR trace, or touches what the host has to do. -/
def Obligations.ConditionsLeaveTheHostsRegisters : Prop :=
  ∀ (i : Instr) (w : BitVec 13) (s : State), encode i = .condition w →
    ∃ t, exec i s = .next t ∧ t.resp = s.resp ∧ t.held = s.held ∧ t.program = s.program
      ∧ t.opnd = s.opnd ∧ t.tmrCfg = s.tmrCfg ∧ t.stage = s.stage ∧ t.pwr = s.pwr

/-- No instruction closes an open engine (10_state.md R42, R46), and only BUS_START writes the stored
parameters of a bus engine (R45). -/
def Obligations.EnginesStayOpen : Prop :=
  ∀ (i : Instr) (s : State), ∃ t, exec i s = .next t
    ∧ (∀ n, (s.bus n).opened = true → (t.bus n).opened = true)
    ∧ (s.sr.opened = true → t.sr.opened = true)
    ∧ ((∀ n dir cnt dev reg evt, i ≠ .busStart n dir cnt dev reg evt) →
      ∀ n, (t.bus n).dev = (s.bus n).dev ∧ (t.bus n).reg = (s.bus n).reg
        ∧ (t.bus n).dir = (s.bus n).dir ∧ (t.bus n).evt = (s.bus n).evt)

/-- Every step but power-on reset only adds to the output traces (00_scope.md R11, 10_state.md R54). -/
def Obligations.TracesOnlyGrow : Prop :=
  ∀ s : State, (∀ rest, s.turns ≠ .powerOn :: rest) →
    ∃ t, step s = .next t ∧ s.busphy0 <+: t.busphy0 ∧ s.busphy1 <+: t.busphy1 ∧ s.serphy <+: t.serphy
      ∧ s.pwr <+: t.pwr

/-- While the votes the engines have cast are all still counted, no instruction but EM_INIT and EM_UNBLOCK
breaks that (70_reset_and_hazards.md R364). -/
def Obligations.EngineVotesStayCounted : Prop :=
  ∀ (i : Instr) (s : State), s.Inv → s.VotesBacked → i ≠ .emInit → (∀ d, i ≠ .emUnblock d) →
    ∃ t, exec i s = .next t ∧ t.VotesBacked

/-- A correct environment never drives TWCORE into FATAL: in a state that meets the invariant, with FATAL =
0 and every engine's vote still counted, a condition that its environment may deliver raises no Fatal
(60_exceptions.md R336, 42_bus_engine.md R240, 43_serial_engine.md R272). -/
def Obligations.CorrectEnvironmentNeverFaults : Prop :=
  ∀ (s : State) (w : BitVec 13), s.Inv → s.fatal = false → s.VotesBacked → s.dutyMet w = true →
    ∃ t, condDeliver w s = .next t ∧ t.fatal = false

/-- With a correct environment only the host's own mistakes fault: in a state that meets the invariant, with
FATAL = 0 and every engine's vote still counted, a turn that breaks no duty takes a step, and where that step
raises Fatal the cause is none of BUS_NOT_IDLE, the wrong-state causes and ILLEGAL_EVENT (60_exceptions.md
R336 (a) to (c), (e) to (g)). -/
def Obligations.CorrectTurnsLeaveOnlyHostFaults : Prop :=
  ∀ (s : State) (turn : Turn) (rest : List Turn), s.Inv → s.fatal = false → s.VotesBacked →
    s.turns = turn :: rest → s.turnDuty turn = true →
    ∃ t, step s = .next t ∧ (t.fatal = true → t.hostFault = true)

/-! ### Reset and the invariant (70_reset_and_hazards.md) -/

/-- What reset leaves (70_reset_and_hazards.md R351): every field of the block at the value the spec states,
and the register reads 0; the power-on reset step leaves the same from every state (R350). The bytes of
STAGE and SR.pay are any (R352). -/
def Obligations.ResetLeavesTheStatedState : Prop :=
  State.reset.AfterReset
    ∧ State.reset.readReg .status = 0#32 ∧ State.reset.readReg .finfo = 0#32
    ∧ State.reset.readReg .resp = 0#32
    ∧ ∀ (s : State) (rest : List Turn), s.turns = .powerOn :: rest →
      ∃ t, step s = .next t ∧ t.AfterReset ∧ t.cfg = s.cfg

/-- The invariant holds at reset. -/
def Obligations.ResetMeetsInv : Prop := State.reset.Inv ∧ State.reset.VotesBacked

/-- Every step keeps the invariant: the arrays keep their sizes, every vote stays below VOTE_BOUND
(10_state.md R38), the record is 0 while FATAL = 0 (R32), the reserved bits of TMRCFG stay 0 (R36), the
fields of the engines agree (R40 to R44, R47, R49, R50 with log entry 12; the spec marks the clauses of R44,
R49 and R50 as derived), CMDBUSY is a recovery in progress (R35). -/
def Obligations.EveryStepKeepsInv : Prop :=
  ∀ s : State, s.Inv → ∃ t, step s = .next t ∧ t.Inv
end

