-- ==== Sys2Proof/Laws/State.lean ====
section
/-! SUPPORT. The small lemmas of the record updates: one per operation per field, so that no later proof
unfolds an update. -/

namespace Sys2Proof.Machine

/-! ### `State.respond` -/

@[simp] theorem State.respond_cfg (s : State) (v : Word) : (s.respond v).cfg = s.cfg := rfl
@[simp] theorem State.respond_fatal (s : State) (v : Word) : (s.respond v).fatal = s.fatal := rfl
@[simp] theorem State.respond_funit (s : State) (v : Word) : (s.respond v).funit = s.funit := rfl
@[simp] theorem State.respond_fcause (s : State) (v : Word) : (s.respond v).fcause = s.fcause := rfl
@[simp] theorem State.respond_finfo (s : State) (v : Word) : (s.respond v).finfo = s.finfo := rfl
@[simp] theorem State.respond_resp (s : State) (v : Word) : (s.respond v).resp = v := rfl
@[simp] theorem State.respond_opnd (s : State) (v : Word) : (s.respond v).opnd = s.opnd := rfl
@[simp] theorem State.respond_cmdBusy (s : State) (v : Word) : (s.respond v).cmdBusy = s.cmdBusy := rfl
@[simp] theorem State.respond_tmrCfg (s : State) (v : Word) : (s.respond v).tmrCfg = s.tmrCfg := rfl
@[simp] theorem State.respond_evt (s : State) (v : Word) : (s.respond v).evt = s.evt := rfl
@[simp] theorem State.respond_vote (s : State) (v : Word) : (s.respond v).vote = s.vote := rfl
@[simp] theorem State.respond_bus0 (s : State) (v : Word) : (s.respond v).bus0 = s.bus0 := rfl
@[simp] theorem State.respond_bus1 (s : State) (v : Word) : (s.respond v).bus1 = s.bus1 := rfl
@[simp] theorem State.respond_sr (s : State) (v : Word) : (s.respond v).sr = s.sr := rfl
@[simp] theorem State.respond_stage (s : State) (v : Word) : (s.respond v).stage = s.stage := rfl
@[simp] theorem State.respond_busphy0 (s : State) (v : Word) : (s.respond v).busphy0 = s.busphy0 := rfl
@[simp] theorem State.respond_busphy1 (s : State) (v : Word) : (s.respond v).busphy1 = s.busphy1 := rfl
@[simp] theorem State.respond_serphy (s : State) (v : Word) : (s.respond v).serphy = s.serphy := rfl
@[simp] theorem State.respond_pwr (s : State) (v : Word) : (s.respond v).pwr = s.pwr := rfl
@[simp] theorem State.respond_busIdle0 (s : State) (v : Word) : (s.respond v).busIdle0 = s.busIdle0 := rfl
@[simp] theorem State.respond_busIdle1 (s : State) (v : Word) : (s.respond v).busIdle1 = s.busIdle1 := rfl
@[simp] theorem State.respond_asleep (s : State) (v : Word) : (s.respond v).asleep = s.asleep := rfl
@[simp] theorem State.respond_held (s : State) (v : Word) : (s.respond v).held = s.held := rfl
@[simp] theorem State.respond_program (s : State) (v : Word) : (s.respond v).program = s.program := rfl
@[simp] theorem State.respond_loop (s : State) (v : Word) : (s.respond v).loop = s.loop := rfl
@[simp] theorem State.respond_rdata (s : State) (v : Word) : (s.respond v).rdata = s.rdata := rfl
@[simp] theorem State.respond_probeData (s : State) (v : Word) : (s.respond v).probeData = s.probeData := rfl
@[simp] theorem State.respond_turns (s : State) (v : Word) : (s.respond v).turns = s.turns := rfl
@[simp] theorem State.respond_draws (s : State) (v : Word) : (s.respond v).draws = s.draws := rfl

/-! ### `State.wake` -/

@[simp] theorem State.wake_cfg (s : State) : (s.wake).cfg = s.cfg := rfl
@[simp] theorem State.wake_fatal (s : State) : (s.wake).fatal = s.fatal := rfl
@[simp] theorem State.wake_funit (s : State) : (s.wake).funit = s.funit := rfl
@[simp] theorem State.wake_fcause (s : State) : (s.wake).fcause = s.fcause := rfl
@[simp] theorem State.wake_finfo (s : State) : (s.wake).finfo = s.finfo := rfl
@[simp] theorem State.wake_resp (s : State) : (s.wake).resp = s.resp := rfl
@[simp] theorem State.wake_opnd (s : State) : (s.wake).opnd = s.opnd := rfl
@[simp] theorem State.wake_cmdBusy (s : State) : (s.wake).cmdBusy = s.cmdBusy := rfl
@[simp] theorem State.wake_tmrCfg (s : State) : (s.wake).tmrCfg = s.tmrCfg := rfl
@[simp] theorem State.wake_evt (s : State) : (s.wake).evt = s.evt := rfl
@[simp] theorem State.wake_vote (s : State) : (s.wake).vote = s.vote := rfl
@[simp] theorem State.wake_bus0 (s : State) : (s.wake).bus0 = s.bus0 := rfl
@[simp] theorem State.wake_bus1 (s : State) : (s.wake).bus1 = s.bus1 := rfl
@[simp] theorem State.wake_sr (s : State) : (s.wake).sr = s.sr := rfl
@[simp] theorem State.wake_stage (s : State) : (s.wake).stage = s.stage := rfl
@[simp] theorem State.wake_busphy0 (s : State) : (s.wake).busphy0 = s.busphy0 := rfl
@[simp] theorem State.wake_busphy1 (s : State) : (s.wake).busphy1 = s.busphy1 := rfl
@[simp] theorem State.wake_serphy (s : State) : (s.wake).serphy = s.serphy := rfl
@[simp] theorem State.wake_pwr (s : State) : (s.wake).pwr = s.pwr := rfl
@[simp] theorem State.wake_busIdle0 (s : State) : (s.wake).busIdle0 = s.busIdle0 := rfl
@[simp] theorem State.wake_busIdle1 (s : State) : (s.wake).busIdle1 = s.busIdle1 := rfl
@[simp] theorem State.wake_asleep (s : State) : (s.wake).asleep = false := rfl
@[simp] theorem State.wake_held (s : State) : (s.wake).held = s.held := rfl
@[simp] theorem State.wake_program (s : State) : (s.wake).program = s.program := rfl
@[simp] theorem State.wake_loop (s : State) : (s.wake).loop = s.loop := rfl
@[simp] theorem State.wake_rdata (s : State) : (s.wake).rdata = s.rdata := rfl
@[simp] theorem State.wake_probeData (s : State) : (s.wake).probeData = s.probeData := rfl
@[simp] theorem State.wake_turns (s : State) : (s.wake).turns = s.turns := rfl
@[simp] theorem State.wake_draws (s : State) : (s.wake).draws = s.draws := rfl

/-! ### `State.post` -/

@[simp] theorem State.post_cfg (s : State) (i : BitVec 5) : (s.post i).cfg = s.cfg := rfl
@[simp] theorem State.post_fatal (s : State) (i : BitVec 5) : (s.post i).fatal = s.fatal := rfl
@[simp] theorem State.post_funit (s : State) (i : BitVec 5) : (s.post i).funit = s.funit := rfl
@[simp] theorem State.post_fcause (s : State) (i : BitVec 5) : (s.post i).fcause = s.fcause := rfl
@[simp] theorem State.post_finfo (s : State) (i : BitVec 5) : (s.post i).finfo = s.finfo := rfl
@[simp] theorem State.post_resp (s : State) (i : BitVec 5) : (s.post i).resp = s.resp := rfl
@[simp] theorem State.post_opnd (s : State) (i : BitVec 5) : (s.post i).opnd = s.opnd := rfl
@[simp] theorem State.post_cmdBusy (s : State) (i : BitVec 5) : (s.post i).cmdBusy = s.cmdBusy := rfl
@[simp] theorem State.post_tmrCfg (s : State) (i : BitVec 5) : (s.post i).tmrCfg = s.tmrCfg := rfl
@[simp] theorem State.post_evt (s : State) (i : BitVec 5) : (s.post i).evt = s.evt ||| evtBit i := rfl
@[simp] theorem State.post_vote (s : State) (i : BitVec 5) : (s.post i).vote = s.vote := rfl
@[simp] theorem State.post_bus0 (s : State) (i : BitVec 5) : (s.post i).bus0 = s.bus0 := rfl
@[simp] theorem State.post_bus1 (s : State) (i : BitVec 5) : (s.post i).bus1 = s.bus1 := rfl
@[simp] theorem State.post_sr (s : State) (i : BitVec 5) : (s.post i).sr = s.sr := rfl
@[simp] theorem State.post_stage (s : State) (i : BitVec 5) : (s.post i).stage = s.stage := rfl
@[simp] theorem State.post_busphy0 (s : State) (i : BitVec 5) : (s.post i).busphy0 = s.busphy0 := rfl
@[simp] theorem State.post_busphy1 (s : State) (i : BitVec 5) : (s.post i).busphy1 = s.busphy1 := rfl
@[simp] theorem State.post_serphy (s : State) (i : BitVec 5) : (s.post i).serphy = s.serphy := rfl
@[simp] theorem State.post_pwr (s : State) (i : BitVec 5) : (s.post i).pwr = s.pwr := rfl
@[simp] theorem State.post_busIdle0 (s : State) (i : BitVec 5) : (s.post i).busIdle0 = s.busIdle0 := rfl
@[simp] theorem State.post_busIdle1 (s : State) (i : BitVec 5) : (s.post i).busIdle1 = s.busIdle1 := rfl
@[simp] theorem State.post_asleep (s : State) (i : BitVec 5) : (s.post i).asleep = s.asleep := rfl
@[simp] theorem State.post_held (s : State) (i : BitVec 5) : (s.post i).held = s.held := rfl
@[simp] theorem State.post_program (s : State) (i : BitVec 5) : (s.post i).program = s.program := rfl
@[simp] theorem State.post_loop (s : State) (i : BitVec 5) : (s.post i).loop = s.loop := rfl
@[simp] theorem State.post_rdata (s : State) (i : BitVec 5) : (s.post i).rdata = s.rdata := rfl
@[simp] theorem State.post_probeData (s : State) (i : BitVec 5) : (s.post i).probeData = s.probeData := rfl
@[simp] theorem State.post_turns (s : State) (i : BitVec 5) : (s.post i).turns = s.turns := rfl
@[simp] theorem State.post_draws (s : State) (i : BitVec 5) : (s.post i).draws = s.draws := rfl

/-! ### `State.clearEvt` -/

@[simp] theorem State.clearEvt_cfg (s : State) (i : BitVec 5) : (s.clearEvt i).cfg = s.cfg := rfl
@[simp] theorem State.clearEvt_fatal (s : State) (i : BitVec 5) : (s.clearEvt i).fatal = s.fatal := rfl
@[simp] theorem State.clearEvt_funit (s : State) (i : BitVec 5) : (s.clearEvt i).funit = s.funit := rfl
@[simp] theorem State.clearEvt_fcause (s : State) (i : BitVec 5) : (s.clearEvt i).fcause = s.fcause := rfl
@[simp] theorem State.clearEvt_finfo (s : State) (i : BitVec 5) : (s.clearEvt i).finfo = s.finfo := rfl
@[simp] theorem State.clearEvt_resp (s : State) (i : BitVec 5) : (s.clearEvt i).resp = s.resp := rfl
@[simp] theorem State.clearEvt_opnd (s : State) (i : BitVec 5) : (s.clearEvt i).opnd = s.opnd := rfl
@[simp] theorem State.clearEvt_cmdBusy (s : State) (i : BitVec 5) : (s.clearEvt i).cmdBusy = s.cmdBusy := rfl
@[simp] theorem State.clearEvt_tmrCfg (s : State) (i : BitVec 5) : (s.clearEvt i).tmrCfg = s.tmrCfg := rfl
@[simp] theorem State.clearEvt_evt (s : State) (i : BitVec 5) : (s.clearEvt i).evt = s.evt &&& ~~~ evtBit i := rfl
@[simp] theorem State.clearEvt_vote (s : State) (i : BitVec 5) : (s.clearEvt i).vote = s.vote := rfl
@[simp] theorem State.clearEvt_bus0 (s : State) (i : BitVec 5) : (s.clearEvt i).bus0 = s.bus0 := rfl
@[simp] theorem State.clearEvt_bus1 (s : State) (i : BitVec 5) : (s.clearEvt i).bus1 = s.bus1 := rfl
@[simp] theorem State.clearEvt_sr (s : State) (i : BitVec 5) : (s.clearEvt i).sr = s.sr := rfl
@[simp] theorem State.clearEvt_stage (s : State) (i : BitVec 5) : (s.clearEvt i).stage = s.stage := rfl
@[simp] theorem State.clearEvt_busphy0 (s : State) (i : BitVec 5) : (s.clearEvt i).busphy0 = s.busphy0 := rfl
@[simp] theorem State.clearEvt_busphy1 (s : State) (i : BitVec 5) : (s.clearEvt i).busphy1 = s.busphy1 := rfl
@[simp] theorem State.clearEvt_serphy (s : State) (i : BitVec 5) : (s.clearEvt i).serphy = s.serphy := rfl
@[simp] theorem State.clearEvt_pwr (s : State) (i : BitVec 5) : (s.clearEvt i).pwr = s.pwr := rfl
@[simp] theorem State.clearEvt_busIdle0 (s : State) (i : BitVec 5) : (s.clearEvt i).busIdle0 = s.busIdle0 := rfl
@[simp] theorem State.clearEvt_busIdle1 (s : State) (i : BitVec 5) : (s.clearEvt i).busIdle1 = s.busIdle1 := rfl
@[simp] theorem State.clearEvt_asleep (s : State) (i : BitVec 5) : (s.clearEvt i).asleep = s.asleep := rfl
@[simp] theorem State.clearEvt_held (s : State) (i : BitVec 5) : (s.clearEvt i).held = s.held := rfl
@[simp] theorem State.clearEvt_program (s : State) (i : BitVec 5) : (s.clearEvt i).program = s.program := rfl
@[simp] theorem State.clearEvt_loop (s : State) (i : BitVec 5) : (s.clearEvt i).loop = s.loop := rfl
@[simp] theorem State.clearEvt_rdata (s : State) (i : BitVec 5) : (s.clearEvt i).rdata = s.rdata := rfl
@[simp] theorem State.clearEvt_probeData (s : State) (i : BitVec 5) : (s.clearEvt i).probeData = s.probeData := rfl
@[simp] theorem State.clearEvt_turns (s : State) (i : BitVec 5) : (s.clearEvt i).turns = s.turns := rfl
@[simp] theorem State.clearEvt_draws (s : State) (i : BitVec 5) : (s.clearEvt i).draws = s.draws := rfl

/-! ### `State.setVote` -/

@[simp] theorem State.setVote_cfg (s : State) (d v : Nat) : (s.setVote d v).cfg = s.cfg := rfl
@[simp] theorem State.setVote_fatal (s : State) (d v : Nat) : (s.setVote d v).fatal = s.fatal := rfl
@[simp] theorem State.setVote_funit (s : State) (d v : Nat) : (s.setVote d v).funit = s.funit := rfl
@[simp] theorem State.setVote_fcause (s : State) (d v : Nat) : (s.setVote d v).fcause = s.fcause := rfl
@[simp] theorem State.setVote_finfo (s : State) (d v : Nat) : (s.setVote d v).finfo = s.finfo := rfl
@[simp] theorem State.setVote_resp (s : State) (d v : Nat) : (s.setVote d v).resp = s.resp := rfl
@[simp] theorem State.setVote_opnd (s : State) (d v : Nat) : (s.setVote d v).opnd = s.opnd := rfl
@[simp] theorem State.setVote_cmdBusy (s : State) (d v : Nat) : (s.setVote d v).cmdBusy = s.cmdBusy := rfl
@[simp] theorem State.setVote_tmrCfg (s : State) (d v : Nat) : (s.setVote d v).tmrCfg = s.tmrCfg := rfl
@[simp] theorem State.setVote_evt (s : State) (d v : Nat) : (s.setVote d v).evt = s.evt := rfl
@[simp] theorem State.setVote_vote (s : State) (d v : Nat) : (s.setVote d v).vote = s.vote.set d (v % 2 ^ s.cfg.voteW) := rfl
@[simp] theorem State.setVote_bus0 (s : State) (d v : Nat) : (s.setVote d v).bus0 = s.bus0 := rfl
@[simp] theorem State.setVote_bus1 (s : State) (d v : Nat) : (s.setVote d v).bus1 = s.bus1 := rfl
@[simp] theorem State.setVote_sr (s : State) (d v : Nat) : (s.setVote d v).sr = s.sr := rfl
@[simp] theorem State.setVote_stage (s : State) (d v : Nat) : (s.setVote d v).stage = s.stage := rfl
@[simp] theorem State.setVote_busphy0 (s : State) (d v : Nat) : (s.setVote d v).busphy0 = s.busphy0 := rfl
@[simp] theorem State.setVote_busphy1 (s : State) (d v : Nat) : (s.setVote d v).busphy1 = s.busphy1 := rfl
@[simp] theorem State.setVote_serphy (s : State) (d v : Nat) : (s.setVote d v).serphy = s.serphy := rfl
@[simp] theorem State.setVote_pwr (s : State) (d v : Nat) : (s.setVote d v).pwr = s.pwr := rfl
@[simp] theorem State.setVote_busIdle0 (s : State) (d v : Nat) : (s.setVote d v).busIdle0 = s.busIdle0 := rfl
@[simp] theorem State.setVote_busIdle1 (s : State) (d v : Nat) : (s.setVote d v).busIdle1 = s.busIdle1 := rfl
@[simp] theorem State.setVote_asleep (s : State) (d v : Nat) : (s.setVote d v).asleep = s.asleep := rfl
@[simp] theorem State.setVote_held (s : State) (d v : Nat) : (s.setVote d v).held = s.held := rfl
@[simp] theorem State.setVote_program (s : State) (d v : Nat) : (s.setVote d v).program = s.program := rfl
@[simp] theorem State.setVote_loop (s : State) (d v : Nat) : (s.setVote d v).loop = s.loop := rfl
@[simp] theorem State.setVote_rdata (s : State) (d v : Nat) : (s.setVote d v).rdata = s.rdata := rfl
@[simp] theorem State.setVote_probeData (s : State) (d v : Nat) : (s.setVote d v).probeData = s.probeData := rfl
@[simp] theorem State.setVote_turns (s : State) (d v : Nat) : (s.setVote d v).turns = s.turns := rfl
@[simp] theorem State.setVote_draws (s : State) (d v : Nat) : (s.setVote d v).draws = s.draws := rfl

/-! ### `State.holdWrite` -/

@[simp] theorem State.holdWrite_cfg (s : State) (w : Option Word) : (s.holdWrite w).cfg = s.cfg := rfl
@[simp] theorem State.holdWrite_fatal (s : State) (w : Option Word) : (s.holdWrite w).fatal = s.fatal := rfl
@[simp] theorem State.holdWrite_funit (s : State) (w : Option Word) : (s.holdWrite w).funit = s.funit := rfl
@[simp] theorem State.holdWrite_fcause (s : State) (w : Option Word) : (s.holdWrite w).fcause = s.fcause := rfl
@[simp] theorem State.holdWrite_finfo (s : State) (w : Option Word) : (s.holdWrite w).finfo = s.finfo := rfl
@[simp] theorem State.holdWrite_resp (s : State) (w : Option Word) : (s.holdWrite w).resp = s.resp := rfl
@[simp] theorem State.holdWrite_opnd (s : State) (w : Option Word) : (s.holdWrite w).opnd = s.opnd := rfl
@[simp] theorem State.holdWrite_cmdBusy (s : State) (w : Option Word) : (s.holdWrite w).cmdBusy = s.cmdBusy := rfl
@[simp] theorem State.holdWrite_tmrCfg (s : State) (w : Option Word) : (s.holdWrite w).tmrCfg = s.tmrCfg := rfl
@[simp] theorem State.holdWrite_evt (s : State) (w : Option Word) : (s.holdWrite w).evt = s.evt := rfl
@[simp] theorem State.holdWrite_vote (s : State) (w : Option Word) : (s.holdWrite w).vote = s.vote := rfl
@[simp] theorem State.holdWrite_bus0 (s : State) (w : Option Word) : (s.holdWrite w).bus0 = s.bus0 := rfl
@[simp] theorem State.holdWrite_bus1 (s : State) (w : Option Word) : (s.holdWrite w).bus1 = s.bus1 := rfl
@[simp] theorem State.holdWrite_sr (s : State) (w : Option Word) : (s.holdWrite w).sr = s.sr := rfl
@[simp] theorem State.holdWrite_stage (s : State) (w : Option Word) : (s.holdWrite w).stage = s.stage := rfl
@[simp] theorem State.holdWrite_busphy0 (s : State) (w : Option Word) : (s.holdWrite w).busphy0 = s.busphy0 := rfl
@[simp] theorem State.holdWrite_busphy1 (s : State) (w : Option Word) : (s.holdWrite w).busphy1 = s.busphy1 := rfl
@[simp] theorem State.holdWrite_serphy (s : State) (w : Option Word) : (s.holdWrite w).serphy = s.serphy := rfl
@[simp] theorem State.holdWrite_pwr (s : State) (w : Option Word) : (s.holdWrite w).pwr = s.pwr := rfl
@[simp] theorem State.holdWrite_busIdle0 (s : State) (w : Option Word) : (s.holdWrite w).busIdle0 = s.busIdle0 := rfl
@[simp] theorem State.holdWrite_busIdle1 (s : State) (w : Option Word) : (s.holdWrite w).busIdle1 = s.busIdle1 := rfl
@[simp] theorem State.holdWrite_asleep (s : State) (w : Option Word) : (s.holdWrite w).asleep = s.asleep := rfl
@[simp] theorem State.holdWrite_held (s : State) (w : Option Word) : (s.holdWrite w).held = w := rfl
@[simp] theorem State.holdWrite_program (s : State) (w : Option Word) : (s.holdWrite w).program = s.program := rfl
@[simp] theorem State.holdWrite_loop (s : State) (w : Option Word) : (s.holdWrite w).loop = s.loop := rfl
@[simp] theorem State.holdWrite_rdata (s : State) (w : Option Word) : (s.holdWrite w).rdata = s.rdata := rfl
@[simp] theorem State.holdWrite_probeData (s : State) (w : Option Word) : (s.holdWrite w).probeData = s.probeData := rfl
@[simp] theorem State.holdWrite_turns (s : State) (w : Option Word) : (s.holdWrite w).turns = s.turns := rfl
@[simp] theorem State.holdWrite_draws (s : State) (w : Option Word) : (s.holdWrite w).draws = s.draws := rfl

/-! ### `State.raise` -/

@[simp] theorem State.raise_cfg (s : State) (r : FatalRec) : (s.raise r).cfg = s.cfg := rfl
@[simp] theorem State.raise_fatal (s : State) (r : FatalRec) : (s.raise r).fatal = true := rfl
@[simp] theorem State.raise_funit (s : State) (r : FatalRec) : (s.raise r).funit = r.unit.code := rfl
@[simp] theorem State.raise_fcause (s : State) (r : FatalRec) : (s.raise r).fcause = r.cause.code := rfl
@[simp] theorem State.raise_finfo (s : State) (r : FatalRec) : (s.raise r).finfo = r.finfo := rfl
@[simp] theorem State.raise_resp (s : State) (r : FatalRec) : (s.raise r).resp = s.resp := rfl
@[simp] theorem State.raise_opnd (s : State) (r : FatalRec) : (s.raise r).opnd = s.opnd := rfl
@[simp] theorem State.raise_cmdBusy (s : State) (r : FatalRec) : (s.raise r).cmdBusy = s.cmdBusy := rfl
@[simp] theorem State.raise_tmrCfg (s : State) (r : FatalRec) : (s.raise r).tmrCfg = s.tmrCfg := rfl
@[simp] theorem State.raise_evt (s : State) (r : FatalRec) : (s.raise r).evt = s.evt := rfl
@[simp] theorem State.raise_vote (s : State) (r : FatalRec) : (s.raise r).vote = s.vote := rfl
@[simp] theorem State.raise_bus0 (s : State) (r : FatalRec) : (s.raise r).bus0 = s.bus0 := rfl
@[simp] theorem State.raise_bus1 (s : State) (r : FatalRec) : (s.raise r).bus1 = s.bus1 := rfl
@[simp] theorem State.raise_sr (s : State) (r : FatalRec) : (s.raise r).sr = s.sr := rfl
@[simp] theorem State.raise_stage (s : State) (r : FatalRec) : (s.raise r).stage = s.stage := rfl
@[simp] theorem State.raise_busphy0 (s : State) (r : FatalRec) : (s.raise r).busphy0 = s.busphy0 := rfl
@[simp] theorem State.raise_busphy1 (s : State) (r : FatalRec) : (s.raise r).busphy1 = s.busphy1 := rfl
@[simp] theorem State.raise_serphy (s : State) (r : FatalRec) : (s.raise r).serphy = s.serphy := rfl
@[simp] theorem State.raise_pwr (s : State) (r : FatalRec) : (s.raise r).pwr = s.pwr := rfl
@[simp] theorem State.raise_busIdle0 (s : State) (r : FatalRec) : (s.raise r).busIdle0 = s.busIdle0 := rfl
@[simp] theorem State.raise_busIdle1 (s : State) (r : FatalRec) : (s.raise r).busIdle1 = s.busIdle1 := rfl
@[simp] theorem State.raise_asleep (s : State) (r : FatalRec) : (s.raise r).asleep = s.asleep := rfl
@[simp] theorem State.raise_held (s : State) (r : FatalRec) : (s.raise r).held = s.held := rfl
@[simp] theorem State.raise_program (s : State) (r : FatalRec) : (s.raise r).program = s.program := rfl
@[simp] theorem State.raise_loop (s : State) (r : FatalRec) : (s.raise r).loop = s.loop := rfl
@[simp] theorem State.raise_rdata (s : State) (r : FatalRec) : (s.raise r).rdata = s.rdata := rfl
@[simp] theorem State.raise_probeData (s : State) (r : FatalRec) : (s.raise r).probeData = s.probeData := rfl
@[simp] theorem State.raise_turns (s : State) (r : FatalRec) : (s.raise r).turns = s.turns := rfl
@[simp] theorem State.raise_draws (s : State) (r : FatalRec) : (s.raise r).draws = s.draws := rfl

/-! ### `State.emitSer` -/

@[simp] theorem State.emitSer_cfg (s : State) (as : List SerAction) : (s.emitSer as).cfg = s.cfg := rfl
@[simp] theorem State.emitSer_fatal (s : State) (as : List SerAction) : (s.emitSer as).fatal = s.fatal := rfl
@[simp] theorem State.emitSer_funit (s : State) (as : List SerAction) : (s.emitSer as).funit = s.funit := rfl
@[simp] theorem State.emitSer_fcause (s : State) (as : List SerAction) : (s.emitSer as).fcause = s.fcause := rfl
@[simp] theorem State.emitSer_finfo (s : State) (as : List SerAction) : (s.emitSer as).finfo = s.finfo := rfl
@[simp] theorem State.emitSer_resp (s : State) (as : List SerAction) : (s.emitSer as).resp = s.resp := rfl
@[simp] theorem State.emitSer_opnd (s : State) (as : List SerAction) : (s.emitSer as).opnd = s.opnd := rfl
@[simp] theorem State.emitSer_cmdBusy (s : State) (as : List SerAction) : (s.emitSer as).cmdBusy = s.cmdBusy := rfl
@[simp] theorem State.emitSer_tmrCfg (s : State) (as : List SerAction) : (s.emitSer as).tmrCfg = s.tmrCfg := rfl
@[simp] theorem State.emitSer_evt (s : State) (as : List SerAction) : (s.emitSer as).evt = s.evt := rfl
@[simp] theorem State.emitSer_vote (s : State) (as : List SerAction) : (s.emitSer as).vote = s.vote := rfl
@[simp] theorem State.emitSer_bus0 (s : State) (as : List SerAction) : (s.emitSer as).bus0 = s.bus0 := rfl
@[simp] theorem State.emitSer_bus1 (s : State) (as : List SerAction) : (s.emitSer as).bus1 = s.bus1 := rfl
@[simp] theorem State.emitSer_sr (s : State) (as : List SerAction) : (s.emitSer as).sr = s.sr := rfl
@[simp] theorem State.emitSer_stage (s : State) (as : List SerAction) : (s.emitSer as).stage = s.stage := rfl
@[simp] theorem State.emitSer_busphy0 (s : State) (as : List SerAction) : (s.emitSer as).busphy0 = s.busphy0 := rfl
@[simp] theorem State.emitSer_busphy1 (s : State) (as : List SerAction) : (s.emitSer as).busphy1 = s.busphy1 := rfl
@[simp] theorem State.emitSer_serphy (s : State) (as : List SerAction) : (s.emitSer as).serphy = s.serphy ++ as := rfl
@[simp] theorem State.emitSer_pwr (s : State) (as : List SerAction) : (s.emitSer as).pwr = s.pwr := rfl
@[simp] theorem State.emitSer_busIdle0 (s : State) (as : List SerAction) : (s.emitSer as).busIdle0 = s.busIdle0 := rfl
@[simp] theorem State.emitSer_busIdle1 (s : State) (as : List SerAction) : (s.emitSer as).busIdle1 = s.busIdle1 := rfl
@[simp] theorem State.emitSer_asleep (s : State) (as : List SerAction) : (s.emitSer as).asleep = s.asleep := rfl
@[simp] theorem State.emitSer_held (s : State) (as : List SerAction) : (s.emitSer as).held = s.held := rfl
@[simp] theorem State.emitSer_program (s : State) (as : List SerAction) : (s.emitSer as).program = s.program := rfl
@[simp] theorem State.emitSer_loop (s : State) (as : List SerAction) : (s.emitSer as).loop = s.loop := rfl
@[simp] theorem State.emitSer_rdata (s : State) (as : List SerAction) : (s.emitSer as).rdata = s.rdata := rfl
@[simp] theorem State.emitSer_probeData (s : State) (as : List SerAction) : (s.emitSer as).probeData = s.probeData := rfl
@[simp] theorem State.emitSer_turns (s : State) (as : List SerAction) : (s.emitSer as).turns = s.turns := rfl
@[simp] theorem State.emitSer_draws (s : State) (as : List SerAction) : (s.emitSer as).draws = s.draws := rfl

/-! ### `State.emitPwr` -/

@[simp] theorem State.emitPwr_cfg (s : State) (a : PwrAction) : (s.emitPwr a).cfg = s.cfg := rfl
@[simp] theorem State.emitPwr_fatal (s : State) (a : PwrAction) : (s.emitPwr a).fatal = s.fatal := rfl
@[simp] theorem State.emitPwr_funit (s : State) (a : PwrAction) : (s.emitPwr a).funit = s.funit := rfl
@[simp] theorem State.emitPwr_fcause (s : State) (a : PwrAction) : (s.emitPwr a).fcause = s.fcause := rfl
@[simp] theorem State.emitPwr_finfo (s : State) (a : PwrAction) : (s.emitPwr a).finfo = s.finfo := rfl
@[simp] theorem State.emitPwr_resp (s : State) (a : PwrAction) : (s.emitPwr a).resp = s.resp := rfl
@[simp] theorem State.emitPwr_opnd (s : State) (a : PwrAction) : (s.emitPwr a).opnd = s.opnd := rfl
@[simp] theorem State.emitPwr_cmdBusy (s : State) (a : PwrAction) : (s.emitPwr a).cmdBusy = s.cmdBusy := rfl
@[simp] theorem State.emitPwr_tmrCfg (s : State) (a : PwrAction) : (s.emitPwr a).tmrCfg = s.tmrCfg := rfl
@[simp] theorem State.emitPwr_evt (s : State) (a : PwrAction) : (s.emitPwr a).evt = s.evt := rfl
@[simp] theorem State.emitPwr_vote (s : State) (a : PwrAction) : (s.emitPwr a).vote = s.vote := rfl
@[simp] theorem State.emitPwr_bus0 (s : State) (a : PwrAction) : (s.emitPwr a).bus0 = s.bus0 := rfl
@[simp] theorem State.emitPwr_bus1 (s : State) (a : PwrAction) : (s.emitPwr a).bus1 = s.bus1 := rfl
@[simp] theorem State.emitPwr_sr (s : State) (a : PwrAction) : (s.emitPwr a).sr = s.sr := rfl
@[simp] theorem State.emitPwr_stage (s : State) (a : PwrAction) : (s.emitPwr a).stage = s.stage := rfl
@[simp] theorem State.emitPwr_busphy0 (s : State) (a : PwrAction) : (s.emitPwr a).busphy0 = s.busphy0 := rfl
@[simp] theorem State.emitPwr_busphy1 (s : State) (a : PwrAction) : (s.emitPwr a).busphy1 = s.busphy1 := rfl
@[simp] theorem State.emitPwr_serphy (s : State) (a : PwrAction) : (s.emitPwr a).serphy = s.serphy := rfl
@[simp] theorem State.emitPwr_pwr (s : State) (a : PwrAction) : (s.emitPwr a).pwr = s.pwr ++ [a] := rfl
@[simp] theorem State.emitPwr_busIdle0 (s : State) (a : PwrAction) : (s.emitPwr a).busIdle0 = s.busIdle0 := rfl
@[simp] theorem State.emitPwr_busIdle1 (s : State) (a : PwrAction) : (s.emitPwr a).busIdle1 = s.busIdle1 := rfl
@[simp] theorem State.emitPwr_asleep (s : State) (a : PwrAction) : (s.emitPwr a).asleep = s.asleep := rfl
@[simp] theorem State.emitPwr_held (s : State) (a : PwrAction) : (s.emitPwr a).held = s.held := rfl
@[simp] theorem State.emitPwr_program (s : State) (a : PwrAction) : (s.emitPwr a).program = s.program := rfl
@[simp] theorem State.emitPwr_loop (s : State) (a : PwrAction) : (s.emitPwr a).loop = s.loop := rfl
@[simp] theorem State.emitPwr_rdata (s : State) (a : PwrAction) : (s.emitPwr a).rdata = s.rdata := rfl
@[simp] theorem State.emitPwr_probeData (s : State) (a : PwrAction) : (s.emitPwr a).probeData = s.probeData := rfl
@[simp] theorem State.emitPwr_turns (s : State) (a : PwrAction) : (s.emitPwr a).turns = s.turns := rfl
@[simp] theorem State.emitPwr_draws (s : State) (a : PwrAction) : (s.emitPwr a).draws = s.draws := rfl

/-! ### `State.emitBus` -/

@[simp] theorem State.emitBus_cfg (s : State) (n : BusId) (as : List BusAction) : (s.emitBus n as).cfg = s.cfg := by cases n <;> rfl
@[simp] theorem State.emitBus_fatal (s : State) (n : BusId) (as : List BusAction) : (s.emitBus n as).fatal = s.fatal := by cases n <;> rfl
@[simp] theorem State.emitBus_funit (s : State) (n : BusId) (as : List BusAction) : (s.emitBus n as).funit = s.funit := by cases n <;> rfl
@[simp] theorem State.emitBus_fcause (s : State) (n : BusId) (as : List BusAction) : (s.emitBus n as).fcause = s.fcause := by cases n <;> rfl
@[simp] theorem State.emitBus_finfo (s : State) (n : BusId) (as : List BusAction) : (s.emitBus n as).finfo = s.finfo := by cases n <;> rfl
@[simp] theorem State.emitBus_resp (s : State) (n : BusId) (as : List BusAction) : (s.emitBus n as).resp = s.resp := by cases n <;> rfl
@[simp] theorem State.emitBus_opnd (s : State) (n : BusId) (as : List BusAction) : (s.emitBus n as).opnd = s.opnd := by cases n <;> rfl
@[simp] theorem State.emitBus_cmdBusy (s : State) (n : BusId) (as : List BusAction) : (s.emitBus n as).cmdBusy = s.cmdBusy := by cases n <;> rfl
@[simp] theorem State.emitBus_tmrCfg (s : State) (n : BusId) (as : List BusAction) : (s.emitBus n as).tmrCfg = s.tmrCfg := by cases n <;> rfl
@[simp] theorem State.emitBus_evt (s : State) (n : BusId) (as : List BusAction) : (s.emitBus n as).evt = s.evt := by cases n <;> rfl
@[simp] theorem State.emitBus_vote (s : State) (n : BusId) (as : List BusAction) : (s.emitBus n as).vote = s.vote := by cases n <;> rfl
@[simp] theorem State.emitBus_bus0 (s : State) (n : BusId) (as : List BusAction) : (s.emitBus n as).bus0 = s.bus0 := by cases n <;> rfl
@[simp] theorem State.emitBus_bus1 (s : State) (n : BusId) (as : List BusAction) : (s.emitBus n as).bus1 = s.bus1 := by cases n <;> rfl
@[simp] theorem State.emitBus_sr (s : State) (n : BusId) (as : List BusAction) : (s.emitBus n as).sr = s.sr := by cases n <;> rfl
@[simp] theorem State.emitBus_stage (s : State) (n : BusId) (as : List BusAction) : (s.emitBus n as).stage = s.stage := by cases n <;> rfl
@[simp] theorem State.emitBus_serphy (s : State) (n : BusId) (as : List BusAction) : (s.emitBus n as).serphy = s.serphy := by cases n <;> rfl
@[simp] theorem State.emitBus_pwr (s : State) (n : BusId) (as : List BusAction) : (s.emitBus n as).pwr = s.pwr := by cases n <;> rfl
@[simp] theorem State.emitBus_busIdle0 (s : State) (n : BusId) (as : List BusAction) : (s.emitBus n as).busIdle0 = s.busIdle0 := by cases n <;> rfl
@[simp] theorem State.emitBus_busIdle1 (s : State) (n : BusId) (as : List BusAction) : (s.emitBus n as).busIdle1 = s.busIdle1 := by cases n <;> rfl
@[simp] theorem State.emitBus_asleep (s : State) (n : BusId) (as : List BusAction) : (s.emitBus n as).asleep = s.asleep := by cases n <;> rfl
@[simp] theorem State.emitBus_held (s : State) (n : BusId) (as : List BusAction) : (s.emitBus n as).held = s.held := by cases n <;> rfl
@[simp] theorem State.emitBus_program (s : State) (n : BusId) (as : List BusAction) : (s.emitBus n as).program = s.program := by cases n <;> rfl
@[simp] theorem State.emitBus_loop (s : State) (n : BusId) (as : List BusAction) : (s.emitBus n as).loop = s.loop := by cases n <;> rfl
@[simp] theorem State.emitBus_rdata (s : State) (n : BusId) (as : List BusAction) : (s.emitBus n as).rdata = s.rdata := by cases n <;> rfl
@[simp] theorem State.emitBus_probeData (s : State) (n : BusId) (as : List BusAction) : (s.emitBus n as).probeData = s.probeData := by cases n <;> rfl
@[simp] theorem State.emitBus_turns (s : State) (n : BusId) (as : List BusAction) : (s.emitBus n as).turns = s.turns := by cases n <;> rfl
@[simp] theorem State.emitBus_draws (s : State) (n : BusId) (as : List BusAction) : (s.emitBus n as).draws = s.draws := by cases n <;> rfl

/-! ### `State.setBus` -/

@[simp] theorem State.setBus_cfg (s : State) (n : BusId) (b : BusEngine) : (s.setBus n b).cfg = s.cfg := by cases n <;> rfl
@[simp] theorem State.setBus_fatal (s : State) (n : BusId) (b : BusEngine) : (s.setBus n b).fatal = s.fatal := by cases n <;> rfl
@[simp] theorem State.setBus_funit (s : State) (n : BusId) (b : BusEngine) : (s.setBus n b).funit = s.funit := by cases n <;> rfl
@[simp] theorem State.setBus_fcause (s : State) (n : BusId) (b : BusEngine) : (s.setBus n b).fcause = s.fcause := by cases n <;> rfl
@[simp] theorem State.setBus_finfo (s : State) (n : BusId) (b : BusEngine) : (s.setBus n b).finfo = s.finfo := by cases n <;> rfl
@[simp] theorem State.setBus_resp (s : State) (n : BusId) (b : BusEngine) : (s.setBus n b).resp = s.resp := by cases n <;> rfl
@[simp] theorem State.setBus_opnd (s : State) (n : BusId) (b : BusEngine) : (s.setBus n b).opnd = s.opnd := by cases n <;> rfl
@[simp] theorem State.setBus_cmdBusy (s : State) (n : BusId) (b : BusEngine) : (s.setBus n b).cmdBusy = s.cmdBusy := by cases n <;> rfl
@[simp] theorem State.setBus_tmrCfg (s : State) (n : BusId) (b : BusEngine) : (s.setBus n b).tmrCfg = s.tmrCfg := by cases n <;> rfl
@[simp] theorem State.setBus_evt (s : State) (n : BusId) (b : BusEngine) : (s.setBus n b).evt = s.evt := by cases n <;> rfl
@[simp] theorem State.setBus_vote (s : State) (n : BusId) (b : BusEngine) : (s.setBus n b).vote = s.vote := by cases n <;> rfl
@[simp] theorem State.setBus_sr (s : State) (n : BusId) (b : BusEngine) : (s.setBus n b).sr = s.sr := by cases n <;> rfl
@[simp] theorem State.setBus_stage (s : State) (n : BusId) (b : BusEngine) : (s.setBus n b).stage = s.stage := by cases n <;> rfl
@[simp] theorem State.setBus_busphy0 (s : State) (n : BusId) (b : BusEngine) : (s.setBus n b).busphy0 = s.busphy0 := by cases n <;> rfl
@[simp] theorem State.setBus_busphy1 (s : State) (n : BusId) (b : BusEngine) : (s.setBus n b).busphy1 = s.busphy1 := by cases n <;> rfl
@[simp] theorem State.setBus_serphy (s : State) (n : BusId) (b : BusEngine) : (s.setBus n b).serphy = s.serphy := by cases n <;> rfl
@[simp] theorem State.setBus_pwr (s : State) (n : BusId) (b : BusEngine) : (s.setBus n b).pwr = s.pwr := by cases n <;> rfl
@[simp] theorem State.setBus_busIdle0 (s : State) (n : BusId) (b : BusEngine) : (s.setBus n b).busIdle0 = s.busIdle0 := by cases n <;> rfl
@[simp] theorem State.setBus_busIdle1 (s : State) (n : BusId) (b : BusEngine) : (s.setBus n b).busIdle1 = s.busIdle1 := by cases n <;> rfl
@[simp] theorem State.setBus_asleep (s : State) (n : BusId) (b : BusEngine) : (s.setBus n b).asleep = s.asleep := by cases n <;> rfl
@[simp] theorem State.setBus_held (s : State) (n : BusId) (b : BusEngine) : (s.setBus n b).held = s.held := by cases n <;> rfl
@[simp] theorem State.setBus_program (s : State) (n : BusId) (b : BusEngine) : (s.setBus n b).program = s.program := by cases n <;> rfl
@[simp] theorem State.setBus_loop (s : State) (n : BusId) (b : BusEngine) : (s.setBus n b).loop = s.loop := by cases n <;> rfl
@[simp] theorem State.setBus_rdata (s : State) (n : BusId) (b : BusEngine) : (s.setBus n b).rdata = s.rdata := by cases n <;> rfl
@[simp] theorem State.setBus_probeData (s : State) (n : BusId) (b : BusEngine) : (s.setBus n b).probeData = s.probeData := by cases n <;> rfl
@[simp] theorem State.setBus_turns (s : State) (n : BusId) (b : BusEngine) : (s.setBus n b).turns = s.turns := by cases n <;> rfl
@[simp] theorem State.setBus_draws (s : State) (n : BusId) (b : BusEngine) : (s.setBus n b).draws = s.draws := by cases n <;> rfl

/-! ### `State.driveIdle` -/

@[simp] theorem State.driveIdle_cfg (s : State) (n : BusId) (v : Bool) : (s.driveIdle n v).cfg = s.cfg := by cases n <;> rfl
@[simp] theorem State.driveIdle_fatal (s : State) (n : BusId) (v : Bool) : (s.driveIdle n v).fatal = s.fatal := by cases n <;> rfl
@[simp] theorem State.driveIdle_funit (s : State) (n : BusId) (v : Bool) : (s.driveIdle n v).funit = s.funit := by cases n <;> rfl
@[simp] theorem State.driveIdle_fcause (s : State) (n : BusId) (v : Bool) : (s.driveIdle n v).fcause = s.fcause := by cases n <;> rfl
@[simp] theorem State.driveIdle_finfo (s : State) (n : BusId) (v : Bool) : (s.driveIdle n v).finfo = s.finfo := by cases n <;> rfl
@[simp] theorem State.driveIdle_resp (s : State) (n : BusId) (v : Bool) : (s.driveIdle n v).resp = s.resp := by cases n <;> rfl
@[simp] theorem State.driveIdle_opnd (s : State) (n : BusId) (v : Bool) : (s.driveIdle n v).opnd = s.opnd := by cases n <;> rfl
@[simp] theorem State.driveIdle_cmdBusy (s : State) (n : BusId) (v : Bool) : (s.driveIdle n v).cmdBusy = s.cmdBusy := by cases n <;> rfl
@[simp] theorem State.driveIdle_tmrCfg (s : State) (n : BusId) (v : Bool) : (s.driveIdle n v).tmrCfg = s.tmrCfg := by cases n <;> rfl
@[simp] theorem State.driveIdle_evt (s : State) (n : BusId) (v : Bool) : (s.driveIdle n v).evt = s.evt := by cases n <;> rfl
@[simp] theorem State.driveIdle_vote (s : State) (n : BusId) (v : Bool) : (s.driveIdle n v).vote = s.vote := by cases n <;> rfl
@[simp] theorem State.driveIdle_bus0 (s : State) (n : BusId) (v : Bool) : (s.driveIdle n v).bus0 = s.bus0 := by cases n <;> rfl
@[simp] theorem State.driveIdle_bus1 (s : State) (n : BusId) (v : Bool) : (s.driveIdle n v).bus1 = s.bus1 := by cases n <;> rfl
@[simp] theorem State.driveIdle_sr (s : State) (n : BusId) (v : Bool) : (s.driveIdle n v).sr = s.sr := by cases n <;> rfl
@[simp] theorem State.driveIdle_stage (s : State) (n : BusId) (v : Bool) : (s.driveIdle n v).stage = s.stage := by cases n <;> rfl
@[simp] theorem State.driveIdle_busphy0 (s : State) (n : BusId) (v : Bool) : (s.driveIdle n v).busphy0 = s.busphy0 := by cases n <;> rfl
@[simp] theorem State.driveIdle_busphy1 (s : State) (n : BusId) (v : Bool) : (s.driveIdle n v).busphy1 = s.busphy1 := by cases n <;> rfl
@[simp] theorem State.driveIdle_serphy (s : State) (n : BusId) (v : Bool) : (s.driveIdle n v).serphy = s.serphy := by cases n <;> rfl
@[simp] theorem State.driveIdle_pwr (s : State) (n : BusId) (v : Bool) : (s.driveIdle n v).pwr = s.pwr := by cases n <;> rfl
@[simp] theorem State.driveIdle_asleep (s : State) (n : BusId) (v : Bool) : (s.driveIdle n v).asleep = s.asleep := by cases n <;> rfl
@[simp] theorem State.driveIdle_held (s : State) (n : BusId) (v : Bool) : (s.driveIdle n v).held = s.held := by cases n <;> rfl
@[simp] theorem State.driveIdle_program (s : State) (n : BusId) (v : Bool) : (s.driveIdle n v).program = s.program := by cases n <;> rfl
@[simp] theorem State.driveIdle_loop (s : State) (n : BusId) (v : Bool) : (s.driveIdle n v).loop = s.loop := by cases n <;> rfl
@[simp] theorem State.driveIdle_rdata (s : State) (n : BusId) (v : Bool) : (s.driveIdle n v).rdata = s.rdata := by cases n <;> rfl
@[simp] theorem State.driveIdle_probeData (s : State) (n : BusId) (v : Bool) : (s.driveIdle n v).probeData = s.probeData := by cases n <;> rfl
@[simp] theorem State.driveIdle_turns (s : State) (n : BusId) (v : Bool) : (s.driveIdle n v).turns = s.turns := by cases n <;> rfl
@[simp] theorem State.driveIdle_draws (s : State) (n : BusId) (v : Bool) : (s.driveIdle n v).draws = s.draws := by cases n <;> rfl

/-! ### The two buses: reading back what was written, and the other bus left alone -/

@[simp] theorem State.setBus_bus_self (s : State) (n : BusId) (b : BusEngine) : (s.setBus n b).bus n = b := by
  cases n <;> rfl

theorem State.setBus_bus_other (s : State) (n m : BusId) (b : BusEngine) (h : m ≠ n) :
    (s.setBus n b).bus m = s.bus m := by
  cases n <;> cases m <;> first | rfl | exact absurd rfl h

@[simp] theorem State.setBus_busphy (s : State) (n m : BusId) (b : BusEngine) :
    (s.setBus n b).busphy m = s.busphy m := by
  cases n <;> cases m <;> rfl

@[simp] theorem State.emitBus_busphy_self (s : State) (n : BusId) (as : List BusAction) :
    (s.emitBus n as).busphy n = s.busphy n ++ as := by
  cases n <;> rfl

theorem State.emitBus_busphy_other (s : State) (n m : BusId) (as : List BusAction) (h : m ≠ n) :
    (s.emitBus n as).busphy m = s.busphy m := by
  cases n <;> cases m <;> first | rfl | exact absurd rfl h

@[simp] theorem State.emitBus_bus (s : State) (n m : BusId) (as : List BusAction) :
    (s.emitBus n as).bus m = s.bus m := by
  cases n <;> cases m <;> rfl

@[simp] theorem State.driveIdle_busIdle_self (s : State) (n : BusId) (v : Bool) :
    (s.driveIdle n v).busIdle n = v := by
  cases n <;> rfl

@[simp] theorem State.setBus_bus0_bus0 (s : State) (b : BusEngine) : (s.setBus .bus0 b).bus0 = b := rfl
@[simp] theorem State.setBus_bus0_bus1 (s : State) (b : BusEngine) : (s.setBus .bus0 b).bus1 = s.bus1 := rfl
@[simp] theorem State.setBus_bus1_bus0 (s : State) (b : BusEngine) : (s.setBus .bus1 b).bus0 = s.bus0 := rfl
@[simp] theorem State.setBus_bus1_bus1 (s : State) (b : BusEngine) : (s.setBus .bus1 b).bus1 = b := rfl
@[simp] theorem State.bus_bus0 (s : State) : s.bus .bus0 = s.bus0 := rfl
@[simp] theorem State.bus_bus1 (s : State) : s.bus .bus1 = s.bus1 := rfl
@[simp] theorem State.busphy_bus0 (s : State) : s.busphy .bus0 = s.busphy0 := rfl
@[simp] theorem State.busphy_bus1 (s : State) : s.busphy .bus1 = s.busphy1 := rfl
@[simp] theorem State.busIdle_bus0 (s : State) : s.busIdle .bus0 = s.busIdle0 := rfl
@[simp] theorem State.busIdle_bus1 (s : State) : s.busIdle .bus1 = s.busIdle1 := rfl

/-! ### The accessors through the updates that touch no bus -/

@[simp] theorem State.respond_bus (s : State) (v : Word) (m : BusId) : (s.respond v).bus m = s.bus m := by
  cases m <;> simp [State.bus]
@[simp] theorem State.respond_busphy (s : State) (v : Word) (m : BusId) : (s.respond v).busphy m = s.busphy m := by
  cases m <;> simp [State.busphy]
@[simp] theorem State.wake_bus (s : State) (m : BusId) : (s.wake).bus m = s.bus m := by
  cases m <;> simp [State.bus]
@[simp] theorem State.wake_busphy (s : State) (m : BusId) : (s.wake).busphy m = s.busphy m := by
  cases m <;> simp [State.busphy]
@[simp] theorem State.post_bus (s : State) (i : BitVec 5) (m : BusId) : (s.post i).bus m = s.bus m := by
  cases m <;> simp [State.bus]
@[simp] theorem State.post_busphy (s : State) (i : BitVec 5) (m : BusId) : (s.post i).busphy m = s.busphy m := by
  cases m <;> simp [State.busphy]
@[simp] theorem State.clearEvt_bus (s : State) (i : BitVec 5) (m : BusId) : (s.clearEvt i).bus m = s.bus m := by
  cases m <;> simp [State.bus]
@[simp] theorem State.clearEvt_busphy (s : State) (i : BitVec 5) (m : BusId) : (s.clearEvt i).busphy m = s.busphy m := by
  cases m <;> simp [State.busphy]
@[simp] theorem State.setVote_bus (s : State) (d v : Nat) (m : BusId) : (s.setVote d v).bus m = s.bus m := by
  cases m <;> simp [State.bus]
@[simp] theorem State.setVote_busphy (s : State) (d v : Nat) (m : BusId) : (s.setVote d v).busphy m = s.busphy m := by
  cases m <;> simp [State.busphy]
@[simp] theorem State.holdWrite_bus (s : State) (w : Option Word) (m : BusId) : (s.holdWrite w).bus m = s.bus m := by
  cases m <;> simp [State.bus]
@[simp] theorem State.holdWrite_busphy (s : State) (w : Option Word) (m : BusId) : (s.holdWrite w).busphy m = s.busphy m := by
  cases m <;> simp [State.busphy]
@[simp] theorem State.raise_bus (s : State) (r : FatalRec) (m : BusId) : (s.raise r).bus m = s.bus m := by
  cases m <;> simp [State.bus]
@[simp] theorem State.raise_busphy (s : State) (r : FatalRec) (m : BusId) : (s.raise r).busphy m = s.busphy m := by
  cases m <;> simp [State.busphy]
@[simp] theorem State.emitSer_bus (s : State) (as : List SerAction) (m : BusId) : (s.emitSer as).bus m = s.bus m := by
  cases m <;> simp [State.bus]
@[simp] theorem State.emitSer_busphy (s : State) (as : List SerAction) (m : BusId) : (s.emitSer as).busphy m = s.busphy m := by
  cases m <;> simp [State.busphy]
@[simp] theorem State.emitPwr_bus (s : State) (a : PwrAction) (m : BusId) : (s.emitPwr a).bus m = s.bus m := by
  cases m <;> simp [State.bus]
@[simp] theorem State.emitPwr_busphy (s : State) (a : PwrAction) (m : BusId) : (s.emitPwr a).busphy m = s.busphy m := by
  cases m <;> simp [State.busphy]
@[simp] theorem State.driveIdle_bus (s : State) (n : BusId) (v : Bool) (m : BusId) : (s.driveIdle n v).bus m = s.bus m := by
  cases m <;> simp [State.bus]
@[simp] theorem State.driveIdle_busphy (s : State) (n : BusId) (v : Bool) (m : BusId) : (s.driveIdle n v).busphy m = s.busphy m := by
  cases m <;> simp [State.busphy]

@[simp] theorem State.wake_busIdle (s : State) (m : BusId) : s.wake.busIdle m = s.busIdle m := by
  cases m <;> rfl

@[simp] theorem State.setVote_busIdle (s : State) (d v : Nat) (m : BusId) :
    (s.setVote d v).busIdle m = s.busIdle m := by
  cases m <;> rfl

end Sys2Proof.Machine
end

