-- ==== Sys2Proof/Laws/Ops.lean ====
section
/-! SUPPORT. What each shared operation can do, said once: the common step of a command and of a
condition, posting, voting, the scan of the votes, the payload arrays, and the rule of each instruction
turned round (what a commit of it means). -/

namespace Sys2Proof.Machine

/-! ### The common step of a command -/

theorem portHolds_of_open {s : State} (h : s.PortOpen) : s.portHolds = false := by
  simp [State.portHolds, h.1, h.2]

/-- An open port: the command's own attempt decides. -/
theorem command_open {s : State} (h : s.PortOpen) (i : Instr) (a : Attempt) :
    command i s a = settle i s a := by
  simp [command, portHolds_of_open h]

/-- A port that holds: only the host's pending write changes. -/
theorem command_held {s : State} (h : s.fatal = true ∨ s.cmdBusy = true) (i : Instr) (a : Attempt) :
    command i s a = .next (s.holdWrite (encode i).commandWord) := by
  have : s.portHolds = true := by rcases h with h | h <;> simp [State.portHolds, h]
  simp [command, this]

/-- Whatever the attempt comes to, a command's step holds, raises Fatal or commits. -/
theorem command_elim {i : Instr} {s : State} {a : Attempt} {P : State → Prop}
    (held : P (s.holdWrite (encode i).commandWord)) (raised : ∀ r, s.fatal = false → P (s.raise r))
    (commit : ∀ t, s.PortOpen → a = .commit t → P t) : ∃ t, command i s a = .next t ∧ P t := by
  by_cases h : s.PortOpen
  · rw [command_open h]
    cases a with
    | commit t => exact ⟨t, rfl, commit t h rfl⟩
    | hold => exact ⟨_, rfl, held⟩
    | fatal r => exact ⟨_, rfl, raised r h.1⟩
  · refine ⟨_, command_held ?_ i a, held⟩
    simpa [State.PortOpen, imp_iff_not_or] using h

/-! ### The common step of a condition -/

theorem deliver_lost {s : State} (h : s.fatal = true) (rule : State → Except FatalRec State) :
    deliver s rule = .next s := by
  simp [deliver, h]

theorem deliver_ok {s t : State} {rule : State → Except FatalRec State} (h : s.fatal = false)
    (hr : rule s.wake = .ok t) : deliver s rule = .next t := by
  simp [deliver, h, hr]

theorem deliver_error {s : State} {r : FatalRec} {rule : State → Except FatalRec State}
    (h : s.fatal = false) (hr : rule s.wake = .error r) : deliver s rule = .next (s.raise r) := by
  simp [deliver, h, hr]

/-- The step of a condition is lost, raises Fatal, or is what its rule makes of the woken state. -/
theorem deliver_elim {s : State} {rule : State → Except FatalRec State} {P : State → Prop}
    (lost : s.fatal = true → P s) (raised : ∀ r, s.fatal = false → rule s.wake = .error r → P (s.raise r))
    (done : ∀ t, s.fatal = false → rule s.wake = .ok t → P t) : ∃ t, deliver s rule = .next t ∧ P t := by
  cases h : s.fatal with
  | true => exact ⟨s, deliver_lost h rule, lost h⟩
  | false =>
    cases hr : rule s.wake with
    | ok t => exact ⟨t, deliver_ok h hr, done t h hr⟩
    | error r => exact ⟨_, deliver_error h hr, raised r h hr⟩

/-- Every instruction answers a next state: no meaning stops. -/
theorem exec_next (i : Instr) (s : State) : ∃ t, exec i s = .next t := by
  cases i
  case evtPost | evtClear | evtPending | emInit | emBlock | emUnblock | emFirstBlocked | emSleep
      | busOpen | busStart | busAvail | busRdata | serOpen | serStart | serAvail =>
    obtain ⟨t, h, -⟩ := command_elim (P := fun _ => True) trivial (fun _ _ => trivial)
      (fun _ _ _ => trivial)
    exact ⟨t, h⟩
  all_goals
    obtain ⟨t, h, -⟩ := deliver_elim (P := fun _ => True) (fun _ => trivial) (fun _ _ _ => trivial)
      (fun _ _ _ => trivial)
    exact ⟨t, h⟩

/-! ### The event set -/

theorem evtBit_getLsbD (i : BitVec 5) (j : Nat) : (evtBit i).getLsbD j = decide (j = i.toNat) := by
  have := i.isLt
  simp only [evtBit, BitVec.getLsbD_shiftLeft, BitVec.getLsbD_one]
  by_cases h : j = i.toNat
  · simp [h]; omega
  · by_cases h2 : j < i.toNat
    · simp [h2]; omega
    · have : j - i.toNat ≠ 0 := by omega
      simp [h, this]

theorem post_getLsbD (s : State) (i : BitVec 5) (j : Nat) :
    (s.post i).evt.getLsbD j = (s.evt.getLsbD j || decide (j = i.toNat)) := by
  simp [State.post, evtBit_getLsbD]

theorem clearEvt_getLsbD (s : State) (i : BitVec 5) (j : Nat) (h : j < 32) :
    (s.clearEvt i).evt.getLsbD j = (s.evt.getLsbD j && !decide (j = i.toNat)) := by
  simp only [State.clearEvt, BitVec.getLsbD_and, BitVec.getLsbD_not, evtBit_getLsbD]
  simp [h]

/-! ### The vote table -/

theorem setVote_voteAt_self {s : State} {d v : Nat} (hd : d < s.vote.length) (hv : v < 2 ^ s.cfg.voteW) :
    (s.setVote d v).voteAt d = v := by
  simp [State.setVote, State.voteAt, List.getD_eq_getElem?_getD, hd, Nat.mod_eq_of_lt hv]

theorem setVote_voteAt_other (s : State) {d e : Nat} (v : Nat) (h : e ≠ d) :
    (s.setVote d v).voteAt e = s.voteAt e := by
  simp [State.setVote, State.voteAt, List.getD_eq_getElem?_getD, Ne.symm h]

/-- Writing a counter keeps the sizes of all arrays and the width of every counter. -/
theorem setVote_shape {s : State} (h : s.Shape) (d v : Nat) : (s.setVote d v).Shape := by
  refine ⟨by simpa using h.1, fun x hx => ?_, h.2.2⟩
  rcases List.mem_or_eq_of_mem_set hx with hx | rfl
  · exact h.2.1 x hx
  · exact Nat.mod_lt _ (Nat.two_pow_pos _)

/-- A write below VOTE_BOUND keeps every counter below it. -/
theorem setVote_votesBounded {s : State} (h : s.VotesBounded) (d : Nat) {v : Nat}
    (hv : v < s.cfg.voteBound) : (s.setVote d v).VotesBounded := by
  intro x hx
  rcases List.mem_or_eq_of_mem_set hx with hx | rfl
  · exact h x hx
  · exact Nat.lt_of_le_of_lt (Nat.mod_le _ _) hv

/-- A counter fits its VOTE_W bits. -/
theorem voteAt_lt_width {s : State} (h : s.Shape) (d : Nat) : s.voteAt d < 2 ^ s.cfg.voteW := by
  unfold State.voteAt
  by_cases hd : d < s.vote.length
  · rw [List.getD_eq_getElem _ _ hd]
    exact h.2.1 _ (List.getElem_mem hd)
  · rw [List.getD_eq_default _ _ (Nat.le_of_not_lt hd)]
    exact Nat.two_pow_pos _

/-- A counter in the table stays below the bound; one outside it reads 0. -/
theorem voteAt_lt_bound {s : State} (h : s.VotesBounded) (hb : 0 < s.cfg.voteBound) (d : Nat) :
    s.voteAt d < s.cfg.voteBound := by
  unfold State.voteAt
  by_cases hd : d < s.vote.length
  · rw [List.getD_eq_getElem _ _ hd]
    exact h _ (List.getElem_mem hd)
  · rw [List.getD_eq_default _ _ (Nat.le_of_not_lt hd)]
    simpa using hb

/-- Releasing right after a vote leaves the table as it was. -/
theorem vote_set_back {s : State} {d : Nat} (l : List Nat) (x : Nat)
    (hl : l = s.vote.set d x) (hd : d < s.vote.length) : l.set d (s.vote.getD d 0) = s.vote := by
  subst hl
  rw [List.set_set, List.getD_eq_getElem _ _ hd, List.set_getElem_self]

theorem voteBlock_ok {s : State} {t : Trig} {d : Nat} (h : s.voteAt d + 1 < s.cfg.voteBound) :
    voteBlock t d s = .ok (s.setVote d (s.voteAt d + 1)) := by
  simp [voteBlock, h]

theorem voteBlock_error {s : State} {t : Trig} {d : Nat} (h : s.cfg.voteBound ≤ s.voteAt d + 1) :
    voteBlock t d s = .error (fatalRec .arb .voteOverflow t (BitVec.ofNat 8 d)) := by
  simp [voteBlock, h]

theorem voteBlock_ok_iff {s s' : State} {t : Trig} {d : Nat} :
    voteBlock t d s = .ok s' ↔ s.voteAt d + 1 < s.cfg.voteBound ∧ s' = s.setVote d (s.voteAt d + 1) := by
  unfold voteBlock
  split <;> simp_all [eq_comm]

theorem voteUnblock_ok {s : State} {t : Trig} {d : Nat} (h : s.voteAt d ≠ 0) :
    voteUnblock t d s = .ok (s.setVote d (s.voteAt d - 1)) := by
  simp [voteUnblock, h]

theorem voteUnblock_error {s : State} {t : Trig} {d : Nat} (h : s.voteAt d = 0) :
    voteUnblock t d s = .error (fatalRec .arb .voteUnderflow t (BitVec.ofNat 8 d)) := by
  simp [voteUnblock, h]

theorem voteUnblock_ok_iff {s s' : State} {t : Trig} {d : Nat} :
    voteUnblock t d s = .ok s' ↔ s.voteAt d ≠ 0 ∧ s' = s.setVote d (s.voteAt d - 1) := by
  unfold voteUnblock
  split <;> simp_all [eq_comm]

/-- The scan stops at the first counter that is not 0, or at the end. -/
theorem scanVotes_spec (s : State) (d fuel : Nat) :
    d ≤ s.scanVotes d fuel ∧ s.scanVotes d fuel ≤ d + fuel
      ∧ (∀ e, d ≤ e → e < s.scanVotes d fuel → s.voteAt e = 0)
      ∧ (s.scanVotes d fuel < d + fuel → s.voteAt (s.scanVotes d fuel) ≠ 0) := by
  induction fuel generalizing d with
  | zero => simp [State.scanVotes]; omega
  | succ k ih =>
    obtain ⟨h1, h2, h3, h4⟩ := ih (d + 1)
    unfold State.scanVotes
    split
    case isTrue h0 =>
      refine ⟨by omega, by omega, fun e he hlt => ?_, fun hlt => h4 (by omega)⟩
      rcases Nat.eq_or_lt_of_le he with rfl | he
      · exact h0
      · exact h3 e he hlt
    case isFalse h0 => exact ⟨Nat.le_refl d, by omega, fun e h h' => absurd h' (by omega), fun _ => h0⟩

theorem firstBlocked_spec (s : State) :
    s.firstBlocked ≤ s.cfg.nDepths ∧ (∀ d, d < s.firstBlocked → s.voteAt d = 0)
      ∧ (s.firstBlocked < s.cfg.nDepths → s.voteAt s.firstBlocked ≠ 0) := by
  obtain ⟨-, h2, h3, h4⟩ := scanVotes_spec s 0 s.cfg.nDepths
  simp only [Nat.zero_add] at h2 h4
  exact ⟨h2, fun d h => h3 d (Nat.zero_le d) h, h4⟩

/-- The shallowest blocked depth is the only one that meets its description. -/
theorem firstBlocked_unique {s : State} {f : Nat} (h0 : ∀ d, d < f → s.voteAt d = 0)
    (h1 : f = s.cfg.nDepths ∨ (f < s.cfg.nDepths ∧ s.voteAt f ≠ 0)) : s.firstBlocked = f := by
  obtain ⟨g1, g2, g3⟩ := firstBlocked_spec s
  rcases Nat.lt_trichotomy s.firstBlocked f with h | h | h
  · exact absurd (h0 _ h) (g3 (by omega))
  · exact h
  · rcases h1 with h1 | h1
    · omega
    · exact absurd (g2 _ h) h1.2

/-! ### The byte arrays keep their sizes (10_state.md R30) -/

@[simp] theorem storeStageWord_length (l : List Byte) (k : Nat) (v : Word) :
    (storeStageWord l k v).length = l.length := by
  simp [storeStageWord]

@[simp] theorem copyPayload_length (n : Nat) (stage pay : List Byte) :
    (copyPayload n stage pay).length = pay.length := by
  simp [copyPayload]

/-- A STAGE word is written lane by lane, and nothing else of the buffer. -/
theorem storeStageWord_getD (l : List Byte) (k j : Nat) (v : Word) (hj : j < l.length) :
    (storeStageWord l k v).getD j 0#8 =
      if 4 * k ≤ j ∧ j < 4 * k + 4 then v.extractLsb' (8 * (j - 4 * k)) 8 else l.getD j 0#8 := by
  simp only [storeStageWord, List.getD_eq_getElem?_getD, List.getElem?_set, List.length_set]
  by_cases h : 4 * k ≤ j ∧ j < 4 * k + 4
  · obtain h0 | h0 | h0 | h0 : j = 4 * k ∨ j = 4 * k + 1 ∨ j = 4 * k + 2 ∨ j = 4 * k + 3 := by omega
    all_goals subst h0; simp [hj]
  · have e0 : 4 * k ≠ j := by omega
    have e1 : 4 * k + 1 ≠ j := by omega
    have e2 : 4 * k + 2 ≠ j := by omega
    have e3 : 4 * k + 3 ≠ j := by omega
    simp [h, e0, e1, e2, e3]

/-- The payload copy takes the first `n` bytes of STAGE and keeps the others. -/
theorem copyPayload_getD (n : Nat) (stage pay : List Byte) (j : Nat) (hs : j < stage.length)
    (hp : j < pay.length) :
    (copyPayload n stage pay).getD j 0#8 = if j < n then stage.getD j 0#8 else pay.getD j 0#8 := by
  simp only [copyPayload, List.getD_eq_getElem?_getD, List.getElem?_mapIdx]
  simp [hs, hp]

/-! ### The bus data word -/

@[simp] theorem toDataWord_length (n : Nat) (v : Word) : (toDataWord n v).length = n := by
  simp [toDataWord]

@[simp] theorem placeByte_length (w : List Byte) (c : BitVec 3) (b : Byte) :
    (placeByte w c b).length = w.length := by
  simp [placeByte]

/-- The bytes of a 32-bit value stored as a data word. -/
theorem toDataWord_getD (n : Nat) (v : Word) (k : Nat) :
    (toDataWord n v).getD k 0#8 = if k < n then v.extractLsb' (8 * k) 8 else 0#8 := by
  by_cases h : k < n <;> simp [toDataWord, List.getD_eq_getElem?_getD, h]

/-- A byte placed where nothing has been received yet takes its place, and the others stay. -/
theorem placeByte_getD {w : List Byte} {c : BitVec 3} (b : Byte) (k : Nat) (h0 : w.getD c.toNat 0#8 = 0#8)
    (hc : c.toNat < w.length) :
    (placeByte w c b).getD k 0#8 = if k = c.toNat then b else w.getD k 0#8 := by
  by_cases h : k = c.toNat
  · subst h
    rw [placeByte, h0]
    simp [hc, List.getD_eq_getElem?_getD]
  · simp [placeByte, List.getD_eq_getElem?_getD, h, Ne.symm h]

/-- The four low bytes of a data word, as RESP shows it. -/
theorem ofDataWord_extract (w : List Byte) (j : Nat) (h : j < 4) :
    (ofDataWord w).extractLsb' (8 * j) 8 = w.getD j 0#8 := by
  obtain rfl | rfl | rfl | rfl : j = 0 ∨ j = 1 ∨ j = 2 ∨ j = 3 := by omega
  all_goals
    ext i hi
    simp only [ofDataWord, stageWord, BitVec.getElem_extractLsb', BitVec.getLsbD_append]
    simp +arith [hi, show ¬ 8 + i < 8 from by omega]

/-! ### What a commit means -/

theorem blockAttempt_commit {s t : State} {d : BitVec 3} (h : blockAttempt d s = .commit t) :
    d.toNat < s.cfg.nDepths ∧ s.voteAt d.toNat + 1 < s.cfg.voteBound
      ∧ t = (s.setVote d.toNat (s.voteAt d.toNat + 1)).respond 0#32 := by
  unfold blockAttempt at h
  split at h
  case isTrue hd =>
    split at h
    case h_1 s' hv =>
      obtain ⟨hb, rfl⟩ := voteBlock_ok_iff.mp hv
      exact ⟨by simpa [depthLegal] using hd, hb, (Attempt.commit.inj h).symm⟩
    case h_2 => cases h
  case isFalse => cases h

theorem unblockAttempt_commit {s t : State} {d : BitVec 3} (h : unblockAttempt d s = .commit t) :
    d.toNat < s.cfg.nDepths ∧ s.voteAt d.toNat ≠ 0
      ∧ t = (s.setVote d.toNat (s.voteAt d.toNat - 1)).respond 0#32 := by
  unfold unblockAttempt at h
  split at h
  case isTrue hd =>
    split at h
    case h_1 s' hv =>
      obtain ⟨hb, rfl⟩ := voteUnblock_ok_iff.mp hv
      exact ⟨by simpa [depthLegal] using hd, hb, (Attempt.commit.inj h).symm⟩
    case h_2 => cases h
  case isFalse => cases h

theorem sleepAttempt_commit {s t : State} (h : sleepAttempt s = .commit t) :
    (s.sleepTarget = none ∧ t = s.respond 0xFFFFFFFF#32)
      ∨ ∃ k, s.sleepTarget = some k
        ∧ t = { s.emitPwr (.sleep k) with asleep := true }.respond (BitVec.ofNat 32 k) := by
  unfold sleepAttempt at h
  split at h
  case h_1 h0 => exact .inl ⟨h0, (Attempt.commit.inj h).symm⟩
  case h_2 k h0 => exact .inr ⟨k, h0, (Attempt.commit.inj h).symm⟩

theorem openAttempt_commit {s t : State} {n : BusId} (h : openAttempt n s = .commit t) :
    (s.bus n).opened = false
      ∧ t = { (s.setBus n { s.bus n with recov := true }).emitBus n recoveryStart with
                cmdBusy := true }.respond 0#32 := by
  unfold openAttempt at h
  split at h
  case isTrue => cases h
  case isFalse h0 => exact ⟨by simpa using h0, (Attempt.commit.inj h).symm⟩

theorem startAttempt_commit {s t : State} {n : BusId} {dir : Dir} {cnt : BitVec 3} {dev : BitVec 7}
    {reg : Byte} {evt : BitVec 5} (h : startAttempt n dir cnt dev reg evt s = .commit t) :
    (1 ≤ cnt.toNat ∧ cnt.toNat ≤ s.cfg.maxBytes) ∧ (s.bus n).opened = true ∧ (s.bus n).avail = true
      ∧ s.busIdle n = true ∧ s.voteAt s.cfg.busBlockDepth + 1 < s.cfg.voteBound
      ∧ t = (((s.setVote s.cfg.busBlockDepth (s.voteAt s.cfg.busBlockDepth + 1)).setBus n
          (startedEngine s.cfg (s.bus n) s.opnd dir cnt dev reg evt)).emitBus n [.startW dev]).respond 0#32 := by
  unfold startAttempt at h
  split at h
  case isTrue => cases h
  case isFalse hc =>
    split at h
    case isTrue => cases h
    case isFalse ho =>
      split at h
      case isTrue => cases h
      case isFalse ha =>
        split at h
        case isTrue => cases h
        case isFalse hi =>
          split at h
          case h_1 => cases h
          case h_2 s1 hv =>
            obtain ⟨hb, rfl⟩ := voteBlock_ok_iff.mp hv
            simp only [Bool.not_eq_false] at hc ho ha hi
            refine ⟨by simpa [cntLegal] using hc, ho, ha, hi, hb, ?_⟩
            simpa using (Attempt.commit.inj h).symm

/-- BUS_START holds exactly where its count is legal and its engine open and not available (R211). -/
theorem startAttempt_hold_iff {s : State} {n : BusId} {dir : Dir} {cnt : BitVec 3} {dev : BitVec 7}
    {reg : Byte} {evt : BitVec 5} :
    startAttempt n dir cnt dev reg evt s = .hold ↔
      cntLegal s.cfg cnt = true ∧ (s.bus n).opened = true ∧ (s.bus n).avail = false := by
  unfold startAttempt
  cases cntLegal s.cfg cnt <;> cases (s.bus n).opened <;> cases (s.bus n).avail <;> simp
  cases s.busIdle n <;> simp
  cases voteBlock (Trig.command .busStart) s.cfg.busBlockDepth s <;> simp

theorem serOpenAttempt_commit {s t : State} {idx : BitVec 5} (h : serOpenAttempt idx s = .commit t) :
    s.sr.opened = false
      ∧ t = { s with sr := { s.sr with opened := true, avail := true, st := .writeData, evt := idx,
                                       len := 0#8, cur := 0#8 } }.respond 0#32 := by
  unfold serOpenAttempt at h
  split at h
  case isTrue => cases h
  case isFalse h0 => exact ⟨by simpa using h0, (Attempt.commit.inj h).symm⟩

theorem serStartAttempt_commit {s t : State} {len : Byte} (h : serStartAttempt len s = .commit t) :
    len.toNat ≤ s.cfg.serMaxLen ∧ s.sr.opened = true ∧ s.sr.avail = true
      ∧ s.voteAt s.cfg.serBlockDepth + 1 < s.cfg.voteBound
      ∧ t = ({ s.setVote s.cfg.serBlockDepth (s.voteAt s.cfg.serBlockDepth + 1) with
                sr := startedSerial s.sr s.stage len }.emitSer [.ienTxbl true]).respond 0#32 := by
  unfold serStartAttempt at h
  split at h
  case isTrue => cases h
  case isFalse hc =>
    split at h
    case isTrue => cases h
    case isFalse ho =>
      split at h
      case isTrue => cases h
      case isFalse ha =>
        split at h
        case h_1 => cases h
        case h_2 s1 hv =>
          obtain ⟨hb, rfl⟩ := voteBlock_ok_iff.mp hv
          simp only [Bool.not_eq_false] at hc ho ha
          exact ⟨by simpa [lenLegal] using hc, ho, ha, hb, (Attempt.commit.inj h).symm⟩

/-! ### What a condition's rule does where it raises no Fatal -/

theorem ackRule_ok {n : BusId} {s t : State} (h : ackRule n s = .ok t) :
    ((s.bus n).st = .initWrite
      ∧ t = (s.setBus n { s.bus n with st := (match (s.bus n).dir with
          | .write => .writeData
          | .read => .addrForRead) }).emitBus n [.tx (s.bus n).reg])
    ∨ ((s.bus n).st = .addrForRead
      ∧ t = (s.setBus n { s.bus n with st := .initRead }).emitBus n [.rstartR (s.bus n).dev])
    ∨ ((s.bus n).st = .writeData ∧ (s.bus n).cnt - 1 = 0#3
      ∧ t = (s.setBus n { s.bus n with cnt := 0#3, st := .awaitStop }).emitBus n
          [.tx (wordByte (s.bus n).word 0#3), .stop])
    ∨ ((s.bus n).st = .writeData ∧ (s.bus n).cnt - 1 ≠ 0#3
      ∧ t = (s.setBus n { s.bus n with cnt := (s.bus n).cnt - 1 }).emitBus n
          [.tx (wordByte (s.bus n).word ((s.bus n).cnt - 1))])
    ∨ ((s.bus n).st = .initRead ∧ t = s) := by
  unfold ackRule at h
  split at h
  case h_1 hst => exact .inl ⟨hst, (Except.ok.inj h).symm⟩
  case h_2 hst => exact .inr (.inl ⟨hst, (Except.ok.inj h).symm⟩)
  case h_3 hst =>
    split at h
    case isTrue hc => exact .inr (.inr (.inl ⟨hst, hc, (Except.ok.inj h).symm⟩))
    case isFalse hc => exact .inr (.inr (.inr (.inl ⟨hst, hc, (Except.ok.inj h).symm⟩)))
  case h_4 hst => exact .inr (.inr (.inr (.inr ⟨hst, (Except.ok.inj h).symm⟩)))
  case h_5 => cases h

theorem rxdataRule_ok {n : BusId} {b : Byte} {s t : State} (h : rxdataRule n b s = .ok t) :
    (s.bus n).st = .initRead
      ∧ (((s.bus n).cnt - 1 = 0#3
        ∧ t = (s.setBus n { s.bus n with
            word := placeByte (s.bus n).word 0#3 b, cnt := 0#3, st := .awaitStop }).emitBus n [.nack, .stop])
      ∨ ((s.bus n).cnt - 1 ≠ 0#3
        ∧ t = (s.setBus n { s.bus n with
            word := placeByte (s.bus n).word ((s.bus n).cnt - 1) b,
            cnt := (s.bus n).cnt - 1 }).emitBus n [.ack])) := by
  unfold rxdataRule at h
  split at h
  case h_1 hst =>
    refine ⟨hst, ?_⟩
    split at h
    case isTrue hc => exact .inl ⟨hc, (Except.ok.inj h).symm⟩
    case isFalse hc => exact .inr ⟨hc, (Except.ok.inj h).symm⟩
  all_goals cases h

theorem mstopRule_ok {n : BusId} {s t : State} (h : mstopRule n s = .ok t) :
    (s.bus n).st = .awaitStop ∧ s.voteAt s.cfg.busBlockDepth ≠ 0
      ∧ t = ((s.setVote s.cfg.busBlockDepth (s.voteAt s.cfg.busBlockDepth - 1)).setBus n
          { s.bus n with avail := true, st := .initWrite }).post (s.bus n).evt := by
  unfold mstopRule at h
  split at h
  case h_1 hst =>
    refine ⟨hst, ?_⟩
    unfold completeBus at h
    split at h
    case h_1 => cases h
    case h_2 s1 hv =>
      obtain ⟨hb, rfl⟩ := voteUnblock_ok_iff.mp hv
      exact ⟨hb, by simpa using (Except.ok.inj h).symm⟩
  all_goals cases h

/-- The cases of a bus condition that raises no Fatal. -/
theorem busRule_ok {n : BusId} {c : BusCond} {b : Byte} {s t : State} (h : busRule n c b s = .ok t) :
    ((s.bus n).recov = true ∧ c = .mstop ∧ t = recoveryDone n s)
    ∨ (((s.bus n).recov = true ∨ (s.bus n).opened = false) ∧ t = s)
    ∨ ((s.bus n).recov = false ∧ (s.bus n).opened = true ∧ (s.bus n).avail = false
      ∧ ((c = .ack ∧ ackRule n s = .ok t) ∨ (c = .rxdata ∧ rxdataRule n b s = .ok t)
        ∨ (c = .mstop ∧ mstopRule n s = .ok t))) := by
  unfold busRule at h
  split at h
  case isTrue hr => cases c <;> simp_all
  case isFalse hr =>
    split at h
    case isTrue ho => simp_all
    case isFalse ho =>
      split at h
      case isTrue => cases h
      case isFalse ha => cases c <;> simp_all

theorem txblRule_ok {s t : State} (h : txblRule s = .ok t) :
    s.sr.st = .writeData ∧ t = endBytes (sendByte s) := by
  unfold txblRule at h
  split at h
  case h_1 hst => exact ⟨hst, (Except.ok.inj h).symm⟩
  case h_2 => cases h

theorem txcRule_ok {s t : State} (h : txcRule s = .ok t) :
    s.sr.st = .stop ∧ s.voteAt s.cfg.serBlockDepth ≠ 0
      ∧ t = ({ s.setVote s.cfg.serBlockDepth (s.voteAt s.cfg.serBlockDepth - 1) with
                sr := { s.sr with ienTxc := false, st := .writeData, avail := true } }.emitSer
              [.ienTxc false]).post s.sr.evt := by
  unfold txcRule at h
  split at h
  case h_1 hst =>
    refine ⟨hst, ?_⟩
    split at h
    case h_1 => cases h
    case h_2 s1 hv =>
      obtain ⟨hb, rfl⟩ := voteUnblock_ok_iff.mp hv
      exact ⟨hb, by simpa using (Except.ok.inj h).symm⟩
  case h_2 => cases h

/-- The cases of a serial condition that raises no Fatal. -/
theorem serRule_ok {c : SerCond} {s t : State} (h : serRule c s = .ok t) :
    (s.sr.opened = false ∧ t = s)
    ∨ (s.sr.opened = true ∧ s.sr.avail = false
      ∧ ((c = .txbl ∧ s.sr.st = .writeData ∧ t = endBytes (sendByte s))
        ∨ (c = .txc ∧ txcRule s = .ok t))) := by
  unfold serRule at h
  split at h
  case isTrue ho => exact .inl ⟨ho, (Except.ok.inj h).symm⟩
  case isFalse ho =>
    split at h
    case isTrue => cases h
    case isFalse ha =>
      refine .inr ⟨by simpa using ho, by simpa using ha, ?_⟩
      cases c
      · exact .inl ⟨rfl, (txblRule_ok h).1, (txblRule_ok h).2⟩
      · exact .inr ⟨rfl, h⟩

/-- A timer condition raises no Fatal. -/
theorem timerRule_ok (c : TmrCond) (s : State) :
    timerRule c s = .ok (if tmrEnable s.tmrCfg c then s.post (tmrIdx s.tmrCfg c) else s) := by
  unfold timerRule
  split <;> rfl

end Sys2Proof.Machine
end

