-- ==== Sys2Proof/Laws/PerInstr.lean ====
section
/-! SUPPORT. One fact per instruction: its encoded word lies in its own row of spec/opcode_table.json
(30_encoding.md R119, R126): `word AND mask = match`. -/

open Sys2Proof

/-- The mask and the match of an instruction's row of spec/opcode_table.json. -/
def Sys2Proof.Laws.Matches.row (i : Instr) : Nat × Nat :=
  match i with
  | .evtPost _ => (0xFFFFFFE0, 0x08000000)
  | .evtClear _ => (0xFFFFFFE0, 0x10000000)
  | .evtPending => (0xFFFFFFFF, 0x18000000)
  | .emInit => (0xFFFFFFFF, 0x20000000)
  | .emBlock _ => (0xFFFFFFF8, 0x28000000)
  | .emUnblock _ => (0xFFFFFFF8, 0x30000000)
  | .emFirstBlocked => (0xFFFFFFFF, 0x38000000)
  | .emSleep => (0xFFFFFFFF, 0x40000000)
  | .busOpen _ => (0xFBFFFFFF, 0x48000000)
  | .busStart _ _ _ _ _ _ => (0xF8000060, 0x50000000)
  | .busAvail _ => (0xFBFFFFFF, 0x58000000)
  | .busRdata _ => (0xFBFFFFFF, 0x60000000)
  | .serOpen _ => (0xFFFFFFE0, 0x68000000)
  | .serStart _ => (0xFFFFFF00, 0x70000000)
  | .serAvail => (0xFFFFFFFF, 0x78000000)
  | .bus0Ack _ => (0x1F00, 0x0000)
  | .bus0Rxdata _ => (0x1F00, 0x0100)
  | .bus0Mstop _ => (0x1F00, 0x0200)
  | .bus1Ack _ => (0x1F00, 0x0400)
  | .bus1Rxdata _ => (0x1F00, 0x0500)
  | .bus1Mstop _ => (0x1F00, 0x0600)
  | .serTxbl _ => (0x1F00, 0x0800)
  | .serTxc _ => (0x1F00, 0x0900)
  | .tmrComp0 _ => (0x1F00, 0x0C00)
  | .tmrComp1 _ => (0x1F00, 0x0D00)
  | .tmrUf _ => (0x1F00, 0x0E00)

/-- `word AND mask = match`, for a row (mask, match). -/
def Sys2Proof.Laws.Matches.inRow (r : Nat × Nat) (x : InputWord) : Bool :=
  match x with
  | .command w => w &&& BitVec.ofNat 32 r.1 == BitVec.ofNat 32 r.2
  | .condition w => w &&& BitVec.ofNat 13 r.1 == BitVec.ofNat 13 r.2

/-- The word of `i` lies in the row of `i`. -/
def Sys2Proof.Laws.Matches.Statement (i : Instr) : Prop :=
  Sys2Proof.Laws.Matches.inRow (Sys2Proof.Laws.Matches.row i) (encode i) = true

theorem Sys2Proof.Laws.Matches.evtPost (idx : BitVec 5) :
    Sys2Proof.Laws.Matches.Statement (.evtPost idx) := by
  revert idx
  unfold Sys2Proof.Laws.Matches.Statement
  decide

theorem Sys2Proof.Laws.Matches.evtClear (idx : BitVec 5) :
    Sys2Proof.Laws.Matches.Statement (.evtClear idx) := by
  revert idx
  unfold Sys2Proof.Laws.Matches.Statement
  decide

theorem Sys2Proof.Laws.Matches.evtPending :
    Sys2Proof.Laws.Matches.Statement .evtPending := by
  unfold Sys2Proof.Laws.Matches.Statement
  decide

theorem Sys2Proof.Laws.Matches.emInit :
    Sys2Proof.Laws.Matches.Statement .emInit := by
  unfold Sys2Proof.Laws.Matches.Statement
  decide

theorem Sys2Proof.Laws.Matches.emBlock (depth : BitVec 3) :
    Sys2Proof.Laws.Matches.Statement (.emBlock depth) := by
  revert depth
  unfold Sys2Proof.Laws.Matches.Statement
  decide

theorem Sys2Proof.Laws.Matches.emUnblock (depth : BitVec 3) :
    Sys2Proof.Laws.Matches.Statement (.emUnblock depth) := by
  revert depth
  unfold Sys2Proof.Laws.Matches.Statement
  decide

theorem Sys2Proof.Laws.Matches.emFirstBlocked :
    Sys2Proof.Laws.Matches.Statement .emFirstBlocked := by
  unfold Sys2Proof.Laws.Matches.Statement
  decide

theorem Sys2Proof.Laws.Matches.emSleep :
    Sys2Proof.Laws.Matches.Statement .emSleep := by
  unfold Sys2Proof.Laws.Matches.Statement
  decide

theorem Sys2Proof.Laws.Matches.busOpen (ctl : BusId) :
    Sys2Proof.Laws.Matches.Statement (.busOpen ctl) := by
  unfold Sys2Proof.Laws.Matches.Statement
  cases ctl <;> decide

theorem Sys2Proof.Laws.Matches.busStart (ctl : BusId) (dir : Dir) (cnt : BitVec 3) (dev : BitVec 7) (reg : Byte)
    (evt : BitVec 5) :
    Sys2Proof.Laws.Matches.Statement (.busStart ctl dir cnt dev reg evt) := by
  have key : ∀ c d : BitVec 1,
      (Opcode.busStart.bits ++ c ++ d ++ cnt ++ dev ++ reg ++ 0#2 ++ evt) &&& 0xF8000060#32 = 0x50000000#32 := by
    intro c d
    apply BitVec.eq_of_getLsbD_eq
    intro i hi
    simp only [Opcode.bits, BitVec.getLsbD_and, BitVec.getLsbD_append]
    interval_cases i <;> simp
  cases ctl <;> cases dir <;> exact beq_iff_eq.mpr (key _ _)

theorem Sys2Proof.Laws.Matches.busAvail (ctl : BusId) :
    Sys2Proof.Laws.Matches.Statement (.busAvail ctl) := by
  unfold Sys2Proof.Laws.Matches.Statement
  cases ctl <;> decide

theorem Sys2Proof.Laws.Matches.busRdata (ctl : BusId) :
    Sys2Proof.Laws.Matches.Statement (.busRdata ctl) := by
  unfold Sys2Proof.Laws.Matches.Statement
  cases ctl <;> decide

theorem Sys2Proof.Laws.Matches.serOpen (idx : BitVec 5) :
    Sys2Proof.Laws.Matches.Statement (.serOpen idx) := by
  revert idx
  unfold Sys2Proof.Laws.Matches.Statement
  decide

theorem Sys2Proof.Laws.Matches.serStart (len : Byte) :
    Sys2Proof.Laws.Matches.Statement (.serStart len) := by
  revert len
  unfold Sys2Proof.Laws.Matches.Statement
  decide

theorem Sys2Proof.Laws.Matches.serAvail :
    Sys2Proof.Laws.Matches.Statement .serAvail := by
  unfold Sys2Proof.Laws.Matches.Statement
  decide

theorem Sys2Proof.Laws.Matches.bus0Ack (data : Byte) :
    Sys2Proof.Laws.Matches.Statement (.bus0Ack data) := by
  revert data
  unfold Sys2Proof.Laws.Matches.Statement
  decide

theorem Sys2Proof.Laws.Matches.bus0Rxdata (data : Byte) :
    Sys2Proof.Laws.Matches.Statement (.bus0Rxdata data) := by
  revert data
  unfold Sys2Proof.Laws.Matches.Statement
  decide

theorem Sys2Proof.Laws.Matches.bus0Mstop (data : Byte) :
    Sys2Proof.Laws.Matches.Statement (.bus0Mstop data) := by
  revert data
  unfold Sys2Proof.Laws.Matches.Statement
  decide

theorem Sys2Proof.Laws.Matches.bus1Ack (data : Byte) :
    Sys2Proof.Laws.Matches.Statement (.bus1Ack data) := by
  revert data
  unfold Sys2Proof.Laws.Matches.Statement
  decide

theorem Sys2Proof.Laws.Matches.bus1Rxdata (data : Byte) :
    Sys2Proof.Laws.Matches.Statement (.bus1Rxdata data) := by
  revert data
  unfold Sys2Proof.Laws.Matches.Statement
  decide

theorem Sys2Proof.Laws.Matches.bus1Mstop (data : Byte) :
    Sys2Proof.Laws.Matches.Statement (.bus1Mstop data) := by
  revert data
  unfold Sys2Proof.Laws.Matches.Statement
  decide

theorem Sys2Proof.Laws.Matches.serTxbl (data : Byte) :
    Sys2Proof.Laws.Matches.Statement (.serTxbl data) := by
  revert data
  unfold Sys2Proof.Laws.Matches.Statement
  decide

theorem Sys2Proof.Laws.Matches.serTxc (data : Byte) :
    Sys2Proof.Laws.Matches.Statement (.serTxc data) := by
  revert data
  unfold Sys2Proof.Laws.Matches.Statement
  decide

theorem Sys2Proof.Laws.Matches.tmrComp0 (data : Byte) :
    Sys2Proof.Laws.Matches.Statement (.tmrComp0 data) := by
  revert data
  unfold Sys2Proof.Laws.Matches.Statement
  decide

theorem Sys2Proof.Laws.Matches.tmrComp1 (data : Byte) :
    Sys2Proof.Laws.Matches.Statement (.tmrComp1 data) := by
  revert data
  unfold Sys2Proof.Laws.Matches.Statement
  decide

theorem Sys2Proof.Laws.Matches.tmrUf (data : Byte) :
    Sys2Proof.Laws.Matches.Statement (.tmrUf data) := by
  revert data
  unfold Sys2Proof.Laws.Matches.Statement
  decide
end

