-- ==== Sys2Proof/Machine/Asm.lean ====
section
/-! DEFINITION. Programs: the lines of 30_encoding.md R144 with their text, the pseudo-instructions of
R145, the call mapping and the reference boot of 44_host_interface.md R290, R291.  No step depends on
this file; it says how a program becomes the host's accesses and the agents' turns.  Log 24. -/

namespace Sys2Proof.Machine

/-- One line of a program (30_encoding.md R144).  `probe` is an observer's read of a register. -/
inductive Line where
  | wr (off : Nat) (v : Word)
  | rd (off : Nat)
  | cmd (i : Instr)
  | deliver (w : BitVec 13)
  | probe (off : Nat)
  deriving DecidableEq, Repr

/-- The host accesses of a line. -/
def Line.accesses (p : Config.Params) (l : Line) : List Access :=
  match l with
  | .wr off v => [.write (addrOf p off) 4 v]
  | .rd off => [.read (addrOf p off) 4]
  | .cmd i => issue p i
  | .deliver _ | .probe _ => []

/-- The turns of a line.  After a condition a held CMD write is examined again (00_scope.md R13). -/
def Line.turns (p : Config.Params) (l : Line) : List Turn :=
  match l with
  | .wr _ _ | .rd _ | .cmd _ => [.host]
  | .deliver w => [.cond w, .recheck]
  | .probe off => [.probe (addrOf p off) 4]

/-- `s` with a program to run after whatever it has to do already.  Log 2, 24. -/
def State.load (s : State) (ls : List Line) : State :=
  { s with
    program := s.program ++ (ls.map (Line.accesses s.cfg)).flatten
    turns := s.turns ++ (ls.map (Line.turns s.cfg)).flatten }

/-- The pseudo-instructions (30_encoding.md R145). -/
inductive Pseudo where
  | busRead (ctl : BusId) (cnt : BitVec 3) (reg : Byte) (evt : BitVec 5)
  | busWrite (ctl : BusId) (cnt : BitVec 3) (reg : Byte) (evt : BitVec 5) (v : Word)
  | transmit (text : List Byte)
  | isAvailable (ctl : BusId)
  | pending
  deriving DecidableEq, Repr

/-- The STAGE writes of TRANSMIT: word k holds bytes 4k to 4k+3 of the text, bytes past its end 0. -/
def stageLines (text : List Byte) : List Line :=
  (List.range ((text.length + 3) / 4)).map (fun k => .wr (0x100 + 4 * k) (stageWord text k))

/-- The lines a pseudo-instruction stands for (30_encoding.md R145); `devAddr` is DEV_ADDR, a parameter of
the program.  A text longer than SER_MAX_LEN is refused by the assembler. -/
def Pseudo.expand (p : Config.Params) (devAddr : BusId → BitVec 7) (x : Pseudo) : Option (List Line) :=
  match x with
  | .busRead ctl cnt reg evt => some [.cmd (.busStart ctl .read cnt (devAddr ctl) reg evt)]
  | .busWrite ctl cnt reg evt v =>
    some [.wr 0x010 v, .cmd (.busStart ctl .write cnt (devAddr ctl) reg evt)]
  | .transmit text =>
    if text.length ≤ p.serMaxLen then
      some (stageLines text ++ [.cmd (.serStart (BitVec.ofNat 8 text.length))])
    else none
  | .isAvailable ctl => some [.cmd (.busAvail ctl), .rd 0x004]
  | .pending => some [.cmd .evtPending, .rd 0x004]

/-! ### The reference event identifiers and the call mapping -/

/-- The names of the reference assignment of event identifiers (40_scheduler.md R155). -/
inductive EventName where
  | comp0
  | comp1
  | uf
  | busReadDone
  | boot
  | serTxDone
  | busWriteDone
  deriving DecidableEq, Repr

/-- The identifier of a name (40_scheduler.md R155); TWCORE gives no number a meaning of its own. -/
def EventName.ident (e : EventName) : BitVec 5 :=
  match e with
  | .comp0 => 0#5
  | .comp1 => 1#5
  | .uf => 2#5
  | .busReadDone => 3#5
  | .boot => 4#5
  | .serTxDone => 5#5
  | .busWriteDone => 6#5

/-- The operations of the source (44_host_interface.md R290). -/
inductive Call where
  | post (idx : BitVec 5)
  | clear (idx : BitVec 5)
  | pending
  | init
  | block (depth : BitVec 3)
  | unblock (depth : BitVec 3)
  | deepestBlocked
  | enterSleep
  | busOpen (ctl : BusId)
  | busStart (dir : Dir) (buffer : Word) (cnt : BitVec 3) (dev : BitVec 7) (reg : Byte) (ctl : BusId)
      (evt : BitVec 5)
  | isAvailable (ctl : BusId)
  | read (cnt : BitVec 3) (reg : Byte) (evt : BitVec 5) (ctl : BusId)
  | write (cnt : BitVec 3) (reg : Byte) (evt : BitVec 5) (ctl : BusId) (v : Word)
  | collect (ctl : BusId)
  | serOpen (evt : BitVec 5)
  | serStart (payload : List Byte) (len : Byte)
  | transmit (text : List Byte)
  deriving DecidableEq, Repr

/-- The host sequence of an operation (44_host_interface.md R290).  The STAGE writes of serial `start` are
those of TRANSMIT for the first `len` bytes (DEDUCED from 30_encoding.md R145, log 24); a length past
SER_MAX_LEN is issued all the same and raises BAD_OPERAND (43_serial_engine.md R255, 30_encoding.md R122). -/
def Call.lines (p : Config.Params) (devAddr : BusId → BitVec 7) (c : Call) : Option (List Line) :=
  match c with
  | .post idx => some [.cmd (.evtPost idx)]
  | .clear idx => some [.cmd (.evtClear idx)]
  | .pending => some [.cmd .evtPending, .rd 0x004]
  | .init => some [.cmd .emInit]
  | .block d => some [.cmd (.emBlock d)]
  | .unblock d => some [.cmd (.emUnblock d)]
  | .deepestBlocked => some [.cmd .emFirstBlocked, .rd 0x004]
  | .enterSleep => some [.cmd .emSleep]
  | .busOpen n => some [.cmd (.busOpen n)]
  | .busStart .write buffer cnt dev reg n evt =>
    some [.wr 0x010 buffer, .cmd (.busStart n .write cnt dev reg evt)]
  | .busStart .read _ cnt dev reg n evt => some [.cmd (.busStart n .read cnt dev reg evt)]
  | .isAvailable n => some [.cmd (.busAvail n), .rd 0x004]
  | .read cnt reg evt n => (Pseudo.busRead n cnt reg evt).expand p devAddr
  | .write cnt reg evt n v => (Pseudo.busWrite n cnt reg evt v).expand p devAddr
  | .collect n => some [.cmd (.busRdata n), .rd 0x004]
  | .serOpen evt => some [.cmd (.serOpen evt)]
  | .serStart payload len => some (stageLines (payload.take len.toNat) ++ [.cmd (.serStart len)])
  | .transmit text => (Pseudo.transmit text).expand p devAddr

/-! ### The text of a line (30_encoding.md R144, R145) -/

/-- A piece of a program line. -/
inductive Token where
  | word (cs : List Char)
  | comma
  | quoted (cs : List Char)
  deriving DecidableEq, Repr

/-- The word read so far, the last character first, as a token if there is one. -/
def wordToken (acc : List Char) : List Token :=
  match acc with
  | [] => []
  | c :: cs => [.word (c :: cs).reverse]

/-- The tokens of a line, a comment dropped: space (32) and tab (9) part words, a comma (44) stands alone,
a semicolon (59) begins a comment, a quote (34) begins and ends a text. -/
def lexLine (inText : Bool) (acc line : List Char) : Option (List Token) :=
  match line with
  | [] => if inText then none else some (wordToken acc)
  | c :: cs =>
    if inText then
      if c.toNat = 34 then (lexLine false [] cs).map (Token.quoted acc.reverse :: ·)
      else lexLine true (c :: acc) cs
    else if c.toNat = 59 then some (wordToken acc)
    else if c.toNat = 32 ∨ c.toNat = 9 then (lexLine false [] cs).map (wordToken acc ++ ·)
    else if c.toNat = 44 then (lexLine false [] cs).map (fun ts => wordToken acc ++ Token.comma :: ts)
    else if c.toNat = 34 then (lexLine true [] cs).map (wordToken acc ++ ·)
    else lexLine false (c :: acc) cs

/-- The operands, parted by commas. -/
def operandsOf (ts : List Token) : Option (List (List Char)) :=
  match ts with
  | [] => some []
  | [.word a] => some [a]
  | .word a :: .comma :: t :: rest => (operandsOf (t :: rest)).map (a :: ·)
  | _ => none

/-- The value of a decimal or hexadecimal digit. -/
def digitOf (c : Char) : Option Nat :=
  if 48 ≤ c.toNat ∧ c.toNat ≤ 57 then some (c.toNat - 48)
  else if 65 ≤ c.toNat ∧ c.toNat ≤ 70 then some (c.toNat - 55)
  else if 97 ≤ c.toNat ∧ c.toNat ≤ 102 then some (c.toNat - 87)
  else none

/-- The digits `cs` in a base, after the digits that made `acc`. -/
def readDigits (base acc : Nat) (cs : List Char) : Option Nat :=
  match cs with
  | [] => some acc
  | c :: rest =>
    match digitOf c with
    | some d => if d < base then readDigits base (acc * base + d) rest else none
    | none => none

/-- "Numbers are decimal or `0x` hexadecimal" (R144). -/
def readNumber (cs : List Char) : Option Nat :=
  match cs with
  | [] => none
  | '0' :: 'x' :: c :: rest => readDigits 16 0 (c :: rest)
  | c :: rest => readDigits 10 0 (c :: rest)

/-- A number that a field of `w` bits holds. -/
def readField (w : Nat) (cs : List Char) : Option (BitVec w) :=
  match readNumber cs with
  | some n => if n < 2 ^ w then some (BitVec.ofNat w n) else none
  | none => none

/-- An engine number (CTL). -/
def readCtl (cs : List Char) : Option BusId := (readField 1 cs).map busOfBit

/-- "`W` assembles DIR = 0 and `R` assembles DIR = 1" (R144). -/
def readDir (cs : List Char) : Option Dir :=
  if cs = ['W'] then some .write else if cs = ['R'] then some .read else none

/-- An offset, as a number or as a register's name (R144). -/
def readOffset (cs : List Char) : Option Nat :=
  if cs = "CMD".toList then some 0x000
  else if cs = "RESP".toList then some 0x004
  else if cs = "STATUS".toList then some 0x008
  else if cs = "FINFO".toList then some 0x00C
  else if cs = "OPND".toList then some 0x010
  else if cs = "TMRCFG".toList then some 0x014
  else if cs.take 6 = "STAGE+".toList then (readNumber (cs.drop 6)).map (0x100 + ·)
  else readNumber cs

/-- A command from its mnemonic and its operands (R144). -/
def readCommand (m : String) (ops : List (List Char)) : Option Instr :=
  match m, ops with
  | "EVT_POST", [a] => (readField 5 a).map .evtPost
  | "EVT_CLEAR", [a] => (readField 5 a).map .evtClear
  | "EVT_PENDING", [] => some .evtPending
  | "EM_INIT", [] => some .emInit
  | "EM_BLOCK", [a] => (readField 3 a).map .emBlock
  | "EM_UNBLOCK", [a] => (readField 3 a).map .emUnblock
  | "EM_FIRST_BLOCKED", [] => some .emFirstBlocked
  | "EM_SLEEP", [] => some .emSleep
  | "BUS_OPEN", [a] => (readCtl a).map .busOpen
  | "BUS_START", [a, b, c, d, e, f] =>
    match readCtl a, readDir b, readField 3 c, readField 7 d, readField 8 e, readField 5 f with
    | some ctl, some dir, some cnt, some dev, some reg, some evt => some (.busStart ctl dir cnt dev reg evt)
    | _, _, _, _, _, _ => none
  | "BUS_AVAIL", [a] => (readCtl a).map .busAvail
  | "BUS_RDATA", [a] => (readCtl a).map .busRdata
  | "SER_OPEN", [a] => (readField 5 a).map .serOpen
  | "SER_START", [a] => (readField 8 a).map .serStart
  | "SER_AVAIL", [] => some .serAvail
  | _, _ => none

/-- A condition from its `@<SRC>.<COND>` and its byte (R144). -/
def readCondition (m : String) (b : Byte) : Option Instr :=
  match m with
  | "@BUS0.ACK" => some (.bus0Ack b)
  | "@BUS0.RXDATA" => some (.bus0Rxdata b)
  | "@BUS0.MSTOP" => some (.bus0Mstop b)
  | "@BUS1.ACK" => some (.bus1Ack b)
  | "@BUS1.RXDATA" => some (.bus1Rxdata b)
  | "@BUS1.MSTOP" => some (.bus1Mstop b)
  | "@SER.TXBL" => some (.serTxbl b)
  | "@SER.TXC" => some (.serTxc b)
  | "@TMR.COMP0" => some (.tmrComp0 b)
  | "@TMR.COMP1" => some (.tmrComp1 b)
  | "@TMR.UF" => some (.tmrUf b)
  | _ => none

/-- A pseudo-instruction from its operands (R145). -/
def readPseudo (m : String) (ops : List (List Char)) : Option Pseudo :=
  match m, ops with
  | "BUS_READ", [a, c, r, e] =>
    match readCtl a, readField 3 c, readField 8 r, readField 5 e with
    | some ctl, some cnt, some reg, some evt => some (.busRead ctl cnt reg evt)
    | _, _, _, _ => none
  | "BUS_WRITE", [a, c, r, e, v] =>
    match readCtl a, readField 3 c, readField 8 r, readField 5 e, readField 32 v with
    | some ctl, some cnt, some reg, some evt, some w => some (.busWrite ctl cnt reg evt w)
    | _, _, _, _, _ => none
  | "IS_AVAILABLE", [a] => (readCtl a).map .isAvailable
  | "PENDING", [] => some .pending
  | _, _ => none

/-- The bytes of a text; a character that is no byte has none.  A NUL character inside the quotes is a byte like
any other, counted in L and sent (DESIGN CHOICE, log 24: 30_encoding.md R145 does not say whether it ends the
text). -/
def textBytes (cs : List Char) : Option (List Byte) :=
  match cs with
  | [] => some []
  | c :: rest => if c.toNat < 256 then (textBytes rest).map (BitVec.ofNat 8 c.toNat :: ·) else none

/-- The delivery of an instruction that is a condition. -/
def deliverLine (i : Instr) : Option Line :=
  match encode i with
  | .condition w => some (.deliver w)
  | .command _ => none

/-- The tokens without a trailing `-> <name>`, which names what a read returned. -/
def dropName (ts : List Token) : List Token :=
  match ts with
  | [] => []
  | [.word ['-', '>'], .word _] => []
  | t :: rest => t :: dropName rest

/-- The lines that may name what they read: RD, IS_AVAILABLE and PENDING (R144, R145). -/
def mayName (ts : List Token) : Bool :=
  match ts with
  | .word m :: _ => decide (m = "RD".toList) || decide (m = "IS_AVAILABLE".toList) || decide (m = "PENDING".toList)
  | _ => false

/-- A mnemonic with its operands: a command, else a pseudo-instruction. -/
def assembleOperation (p : Config.Params) (devAddr : BusId → BitVec 7) (m : String)
    (ops : List (List Char)) : Option (List Line) :=
  match readCommand m ops with
  | some i => some [.cmd i]
  | none =>
    match readPseudo m ops with
    | some x => x.expand p devAddr
    | none => none

/-- The steps one line of a program stands for (R144, R145); none where it is no line of a program.  A
condition whose optional byte is left out is delivered with DATA = 0, RXDATA too, for which the spec says
nothing (DESIGN CHOICE, log 24); every other condition ignores DATA (R127). -/
def assembleTokens (p : Config.Params) (devAddr : BusId → BitVec 7) (ts : List Token) :
    Option (List Line) :=
  match (if mayName ts then dropName ts else ts) with
  | [] => some []
  | [.word m, .quoted cs] =>
    if m = "TRANSMIT".toList then
      match textBytes cs with
      | some bs => (Pseudo.transmit bs).expand p devAddr
      | none => none
    else none
  | .word ('@' :: m) :: rest =>
    match rest with
    | [] => ((readCondition (String.ofList ('@' :: m)) 0#8).bind deliverLine).map ([·])
    | [.word b] =>
      match readField 8 b with
      | some byte => ((readCondition (String.ofList ('@' :: m)) byte).bind deliverLine).map ([·])
      | none => none
    | _ => none
  | .word m :: rest =>
    match operandsOf rest with
    | none => none
    | some ops =>
      if m = "WR".toList then
        match ops with
        | [a, v] =>
          match readOffset a, readField 32 v with
          | some off, some w => some [.wr off w]
          | _, _ => none
        | _ => none
      else if m = "RD".toList then
        match ops with
        | [a] => (readOffset a).map (fun off => [.rd off])
        | _ => none
      else assembleOperation p devAddr (String.ofList m) ops
  | _ => none

/-- One line of text. -/
def assembleLine (p : Config.Params) (devAddr : BusId → BitVec 7) (line : String) : Option (List Line) :=
  match lexLine false [] line.toList with
  | some ts => assembleTokens p devAddr ts
  | none => none

/-- A whole program, line by line; none where one line is refused. -/
def assemble (p : Config.Params) (devAddr : BusId → BitVec 7) (lines : List String) :
    Option (List Line) :=
  match lines with
  | [] => some []
  | l :: rest =>
    match assembleLine p devAddr l, assemble p devAddr rest with
    | some xs, some ys => some (xs ++ ys)
    | _, _ => none

/-! ### The reference programs -/

/-- The reference boot sequence (44_host_interface.md R291): an example program, not a requirement. -/
def bootLines : List Line :=
  [.cmd .emInit, .wr 0x014 0x07020100#32, .cmd (.busOpen .bus0), .cmd (.serOpen 5#5),
    .cmd (.evtPost 4#5)]

/-- The reference main loop at its start (44_host_interface.md R292), with the handlers given. -/
def mainLoop (handlers : List (List Access)) : MainLoop := { phase := .snapshot, handlers := handlers }

end Sys2Proof.Machine
end

