-- ==== Sys2Proof/Tests/Slice0.lean ====
section
/-! SUPPORT. Tests of single steps and of the decoder, with the results of 95_test_vectors.md and of the
formats of 30_encoding.md, and a witness for the hypotheses of each obligation. -/

namespace Sys2Proof.Tests

open Sys2Proof Sys2Proof.Machine

/-! ### States -/

/-- After reset, the unspecified bytes 0 and the buses idle, so that the state can be evaluated. -/
def idle : State :=
  { State.reset with
    sr := { SerEngine.reset Config.twcore 0 with pay := List.replicate 80 0#8 }
    stage := List.replicate 80 0#8
    busIdle0 := true
    busIdle1 := true }

/-- Every engine open and available, the timer routed as in the reference boot (44 R291). -/
def ready : State :=
  { idle with
    tmrCfg := 0x07020100#32
    bus0 := { BusEngine.reset Config.twcore with opened := true, avail := true }
    bus1 := { BusEngine.reset Config.twcore with opened := true, avail := true }
    sr := { idle.sr with opened := true, avail := true, evt := 5#5 } }

/-- Both bus engines work, as the arguments say, and their votes are counted. -/
def busy (st : BusSt) (dir : Dir) (cnt : BitVec 3) (word : Word) : State :=
  { ready with
    vote := [0, 0, 2, 0, 0]
    bus0 := { opened := true, recov := false, avail := false, st := st, word := toDataWord 4 word, cnt := cnt,
              dev := 0x40#7, reg := 0xE3#8, dir := dir, evt := 3#5 }
    bus1 := { opened := true, recov := false, avail := false, st := st, word := toDataWord 4 word, cnt := cnt,
              dev := 0x44#7, reg := 0x20#8, dir := dir, evt := 6#5 } }

/-- The serial engine works: `len` bytes of "AT", `cur` of them sent. -/
def sending (st : SerSt) (len cur : Byte) : State :=
  { ready with
    vote := [0, 0, 0, 1, 0]
    sr := { opened := true, avail := false, st := st, pay := [0x41#8, 0x54#8] ++ List.replicate 78 0#8,
            len := len, cur := cur, evt := 5#5, ienTxbl := decide (st = .writeData),
            ienTxc := decide (st = .stop) } }

/-- Both bus engines in recovery in turn: only one at a time. -/
def recovering (n : BusId) : State :=
  { idle with cmdBusy := true }.setBus n { BusEngine.reset Config.twcore with recov := true }

/-- A halted machine (V-BUS-5). -/
def halted : State :=
  { ready with fatal := true, funit := 3#4, fcause := 3#8, finfo := 0x900#32, asleep := true }

/-- Three votes at depth 2. -/
def threeVotes : State := { idle with vote := [0, 0, 3, 0, 0] }

/-- The state an instruction leaves. -/
def after (i : Instr) (s : State) : State :=
  match exec i s with
  | .next t => t
  | .fault _ => s
  | .refused _ => s

/-- FATAL, FUNIT, FCAUSE and FINFO. -/
def record (s : State) : Bool × Nat × Nat × Nat := (s.fatal, s.funit.toNat, s.fcause.toNat, s.finfo.toNat)

/-- What a read answers. -/
def readOf (off : Nat) (s : State) : Word := (readAccess off 4 s).1

/-! ### WellFormed: each check refuses an ill-formed term (30_encoding.md R122) -/

theorem test_wf_depth_block : (Instr.emBlock 5#3).wellFormed Config.twcore = false := by decide
theorem test_wf_depth_unblock : (Instr.emUnblock 7#3).wellFormed Config.twcore = false := by decide
theorem test_wf_count :
    (Instr.busStart .bus0 .read 0#3 0x40#7 0xE3#8 3#5).wellFormed Config.twcore = false
      ∧ (Instr.busStart .bus0 .read 5#3 0x40#7 0xE3#8 3#5).wellFormed Config.twcore = false := by decide
theorem test_wf_length : (Instr.serStart 81#8).wellFormed Config.twcore = false := by decide
theorem test_wf_accepts :
    (Instr.emBlock 4#3).wellFormed Config.twcore = true
      ∧ (Instr.busStart .bus1 .write 4#3 0x7F#7 0xFF#8 31#5).wellFormed Config.twcore = true
      ∧ (Instr.serStart 80#8).wellFormed Config.twcore = true := by decide

/-! ### Decode: words of V-ENC-1 and V-ENC-5 -/

theorem test_decode_events :
    decodeTableWord 32 0x0800001F = some (.evtPost 31#5)
      ∧ decodeTableWord 32 0x10000003 = some (.evtClear 3#5)
      ∧ decodeTableWord 32 0x18000000 = some .evtPending := by decide
theorem test_decode_arbiter :
    decodeTableWord 32 0x20000000 = some .emInit ∧ decodeTableWord 32 0x28000003 = some (.emBlock 3#3)
      ∧ decodeTableWord 32 0x30000002 = some (.emUnblock 2#3)
      ∧ decodeTableWord 32 0x38000000 = some .emFirstBlocked
      ∧ decodeTableWord 32 0x40000000 = some .emSleep := by decide
theorem test_decode_bus :
    decodeTableWord 32 0x48000000 = some (.busOpen .bus0)
      ∧ decodeTableWord 32 0x4C000000 = some (.busOpen .bus1)
      ∧ decodeTableWord 32 0x5C000000 = some (.busAvail .bus1)
      ∧ decodeTableWord 32 0x60000000 = some (.busRdata .bus0) := by decide
theorem test_decode_bus_start_read :
    decodeTableWord 32 0x52A07183 = some (.busStart .bus0 .read 2#3 0x40#7 0xE3#8 3#5) := by decide
theorem test_decode_bus_start_write :
    decodeTableWord 32 0x54621006 = some (.busStart .bus1 .write 1#3 0x44#7 0x20#8 6#5) := by decide
theorem test_decode_bus_start_extremes :
    decodeTableWord 32 0x573FFF9F = some (.busStart .bus1 .read 4#3 0x7F#7 0xFF#8 31#5) := by decide
/-- BUS_START written out field by field from format B (R116). -/
theorem test_decode_bus_start_bits :
    decode (.command (0b01010#5 ++ 1#1 ++ 0#1 ++ 0b011#3 ++ 0b1010011#7 ++ 0b11001010#8 ++ 0b00#2
      ++ 0b10110#5)) = .ok (.busStart .bus1 .write 3#3 0x53#7 0xCA#8 22#5) := by decide
theorem test_decode_serial :
    decodeTableWord 32 0x68000005 = some (.serOpen 5#5) ∧ decodeTableWord 32 0x70000050 = some (.serStart 80#8)
      ∧ decodeTableWord 32 0x78000000 = some .serAvail := by decide
theorem test_decode_bus_conditions :
    decodeTableWord 16 0x0000 = some (.bus0Ack 0#8) ∧ decodeTableWord 16 0x016B = some (.bus0Rxdata 0x6B#8)
      ∧ decodeTableWord 16 0x0200 = some (.bus0Mstop 0#8) ∧ decodeTableWord 16 0x0400 = some (.bus1Ack 0#8)
      ∧ decodeTableWord 16 0x05FF = some (.bus1Rxdata 0xFF#8)
      ∧ decodeTableWord 16 0x0600 = some (.bus1Mstop 0#8) := by decide
theorem test_decode_other_conditions :
    decodeTableWord 16 0x08AA = some (.serTxbl 0xAA#8) ∧ decodeTableWord 16 0x0900 = some (.serTxc 0#8)
      ∧ decodeTableWord 16 0x0C00 = some (.tmrComp0 0#8) ∧ decodeTableWord 16 0x0D00 = some (.tmrComp1 0#8)
      ∧ decodeTableWord 16 0x0E00 = some (.tmrUf 0#8) := by decide
/-- V-ENC-2: each reason to reject. -/
theorem test_decode_rejects_commands :
    decode (.command 0x00000000#32) = .error (.reservedOpcode 0#5)
      ∧ decode (.command 0xF8000000#32) = .error (.reservedOpcode 31#5)
      ∧ decode (.command 0x08000020#32) = .error (.reservedBits 1#5)
      ∧ decode (.command 0x50000020#32) = .error (.reservedBits 10#5) := by
  refine ⟨?_, ?_, ?_, ?_⟩ <;> rfl
/-- V-ENC-6. -/
theorem test_decode_rejects_conditions :
    decode (.condition 0x0300#13) = .error (.reservedCondition 0#3 3#2 0#8)
      ∧ decode (.condition 0x0A00#13) = .error (.reservedCondition 2#3 2#2 0#8)
      ∧ decode (.condition 0x1077#13) = .error (.reservedCondition 4#3 0#2 0x77#8) := by
  refine ⟨?_, ?_, ?_⟩ <;> rfl

/-! ### One step at a time -/

/-- V-SCH-2. -/
theorem test_evt_post :
    (after (.evtPost 31#5) { idle with evt := 1#32 }).evt = 0x80000001#32 := by decide
/-- V-SCH-4. -/
theorem test_evt_clear :
    (after (.evtClear 0#5) { idle with evt := 0x80000001#32 }).evt = 0x80000000#32 := by decide
/-- V-SCH-5. -/
theorem test_evt_pending :
    (after .evtPending { idle with evt := 0x80000000#32 }).resp = 0x80000000#32 := by decide
/-- V-SCH-7 and V-SCH-8. -/
theorem test_tmr :
    (after (.tmrComp0 0#8) ready).evt = 1#32 ∧ (after (.tmrComp1 0#8) ready).evt = 2#32
      ∧ (after (.tmrUf 0#8) ready).evt = 4#32
      ∧ (after (.tmrUf 0#8) { ready with tmrCfg := 0x03020100#32 }).evt = 0#32 := by decide
/-- V-ARB-5. -/
theorem test_em_init :
    (after .emInit { idle with vote := [0, 0, 1, 2, 0] }).vote = List.replicate 5 0 := by decide
/-- V-ARB-7. -/
theorem test_em_block :
    (after (.emBlock 3#3) { idle with vote := [0, 0, 4, 0, 0] }).vote
      = [0, 0, 4, 1, 0] := by decide
/-- V-ARB-3. -/
theorem test_em_block_overflow :
    record (after (.emBlock 3#3) { idle with vote := [0, 0, 0, 4, 0] })
      = (true, 2, 4, 0x503) := by decide
/-- V-ARB-4. -/
theorem test_em_unblock_underflow : record (after (.emUnblock 2#3) idle) = (true, 2, 5, 0x602) := by decide
/-- V-ARB-1, the row [0,0,0,4,2]. -/
theorem test_em_first_blocked :
    (after .emFirstBlocked { idle with vote := [0, 0, 0, 4, 2] }).resp = 3#32 := by decide
/-- V-ARB-1, the rows [0,0,1,1,0] and [0,1,1,1,1]. -/
theorem test_em_sleep :
    (after .emSleep { idle with vote := [0, 0, 1, 1, 0] }).pwr = [.sleep 1]
      ∧ (after .emSleep { idle with vote := [0, 1, 1, 1, 1] }).resp = 0xFFFFFFFF#32 := by decide
/-- V-BUS-1. -/
theorem test_bus_open :
    (after (.busOpen .bus1) idle).status = 0x00800002#32
      ∧ (after (.busOpen .bus1) idle).busphy1 = [.abort, .ienSaveZero, .ifc, .clrTx, .start, .stop] := by
  decide
/-- V-BUS-2. -/
theorem test_bus_recovery_done :
    (after (.bus1Mstop 0#8) (after (.busOpen .bus1) idle)).status = 0x00120000#32 := by decide
/-- V-BUS-8. -/
theorem test_bus_start :
    (after (.busStart .bus0 .read 2#3 0x40#7 0xE3#8 3#5) ready).vote = [0, 0, 1, 0, 0]
      ∧ (after (.busStart .bus0 .read 2#3 0x40#7 0xE3#8 3#5) ready).busphy0 = [.startW 0x40#7] := by decide
/-- V-BUS-7. -/
theorem test_bus_start_not_idle :
    record (after (.busStart .bus0 .read 2#3 0x40#7 0xE3#8 3#5) { ready with busIdle0 := false })
      = (true, 3, 6, 0xA00) := by decide
/-- V-BUS-16, the queries. -/
theorem test_bus_queries :
    (after (.busAvail .bus0) ready).resp = 1#32
      ∧ (after (.busRdata .bus0) (busy .initRead .read 1#3 0x6B00#32)).resp = 0x6B00#32 := by decide
/-- V-BUS-11. -/
theorem test_bus0_ack :
    (after (.bus0Ack 0#8) (busy .initWrite .read 2#3 0#32)).busphy0 = [.tx 0xE3#8] := by decide
/-- V-BUS-22: only the low byte of the word goes out, then STOP. -/
theorem test_bus1_ack_last :
    (after (.bus1Ack 0#8) (busy .writeData .write 1#3 0x11223344#32)).busphy1 = [.tx 0x44#8, .stop] := by
  decide
/-- V-BUS-14. -/
theorem test_bus0_rxdata :
    (after (.bus0Rxdata 0x6B#8) (busy .initRead .read 2#3 0#32)).bus0.word = [0#8, 0x6B#8, 0#8, 0#8]
      ∧ (after (.bus0Rxdata 0x6B#8) (busy .initRead .read 2#3 0#32)).busphy0 = [.ack] := by decide
/-- V-FLT-26. -/
theorem test_bus1_rxdata_wrong :
    record (after (.bus1Rxdata 0x55#8) (busy .writeData .write 2#3 0#32)) = (true, 4, 8, 0x2503) := by decide
/-- V-BUS-16. -/
theorem test_bus0_mstop :
    (after (.bus0Mstop 0#8) (busy .awaitStop .read 0#3 0x6B1C#32)).evt = 8#32
      ∧ (after (.bus0Mstop 0#8) (busy .awaitStop .read 0#3 0x6B1C#32)).vote
        = [0, 0, 1, 0, 0] := by decide
/-- V-BUS-26. -/
theorem test_bus0_mstop_underflow :
    record (after (.bus0Mstop 0#8) (after .emInit (busy .awaitStop .read 0#3 0#32))) = (true, 2, 5, 0x2202) := by
  decide
/-- V-SER-1. -/
theorem test_ser_open : (after (.serOpen 5#5) idle).status = 0x00240000#32 := by decide
/-- V-SER-4. -/
theorem test_ser_start :
    (after (.serStart 2#8) { ready with stage := [0x41#8, 0x54#8, 7#8] ++ List.replicate 77 0#8 }).sr.pay.take 3
      = [0x41#8, 0x54#8, 0#8] := by decide
/-- V-SER-4, `SER_AVAIL` gives 0. -/
theorem test_ser_avail : (after .serAvail (sending .writeData 2#8 0#8)).resp = 0#32 := by decide
/-- V-SER-6. -/
theorem test_ser_txbl_last :
    (after (.serTxbl 0#8) (sending .writeData 2#8 1#8)).serphy
      = [.tx 0x54#8, .ienTxbl false, .ienTxc true] := by decide
/-- V-SER-7. -/
theorem test_ser_txc :
    (after (.serTxc 0#8) (sending .stop 2#8 2#8)).evt = 0x20#32
      ∧ (after (.serTxc 0#8) (sending .stop 2#8 2#8)).vote = List.replicate 5 0 := by decide
/-- V-HOST-3. -/
theorem test_tmrcfg_mask :
    writeAccess 0x014 4 0xFFFFFFFF#32 idle = .next { idle with tmrCfg := 0x071F1F1F#32 } := by rfl
/-- V-HOST-5. -/
theorem test_stage_lanes :
    (storeStageWord idle.stage 1 0x44434241#32).take 9
      = [0#8, 0#8, 0#8, 0#8, 0x41#8, 0x42#8, 0x43#8, 0x44#8, 0#8] := by decide
/-- V-HOST-14. -/
theorem test_access_fault : record (readAccess 0x006 2 idle).2 = (true, 0, 0x0D, 0x00060002) := by decide
/-- The first instruction after reset is the one placed. -/
theorem test_first_instruction :
    step (State.reset.withFetchWord 32 0x08000004) = exec (.evtPost 4#5) State.reset := by rfl
/-- A condition word placed is delivered. -/
theorem test_first_condition :
    step (State.reset.withFetchWord 16 0x0C00) = exec (.tmrComp0 0#8) State.reset := by rfl

/-! ### Other parameters, and the duties of the environment -/

/-- A word of two bytes (00_scope.md R6, R9): BUS_START keeps the low 16 bits of OPND, a count of 3 is past
MAX_BYTES. -/
theorem test_two_byte_words :
    let p : Config.Params := { Config.twcore with dataW := 16, maxBytes := 2, voteW := 3 }
    let s : State := { ready with cfg := p, opnd := 0x11223344#32 }
    p.ok = true
      ∧ (after (.busStart .bus0 .write 2#3 0x40#7 0xE3#8 3#5) s).bus0.word = [0x44#8, 0x33#8]
      ∧ record (after (.busStart .bus0 .write 3#3 0x40#7 0xE3#8 3#5) s) = (true, 3, 2, 0xA03) := by decide
/-- R272: no serial condition before the engine is open, when both enables are 0. -/
theorem test_serial_duty :
    idle.dutyMet 0x0800#13 = false ∧ idle.dutyMet 0x0900#13 = false
      ∧ (sending .stop 2#8 2#8).dutyMet 0x0900#13 = true := by decide
/-- R336 (d): a recovery without its MSTOP is no run of a correct environment. -/
theorem test_recovery_duty :
    let s : State := { idle with program := [.write idle.cfg.base 4 0x48000000#32] }
    correctRun [.host] s = false ∧ correctRun [.host, .cond 0x0200#13] s = true
      ∧ correctRun [.host, .cond 0x0200#13, .cond 0x0200#13] s = false := by decide
/-- R336 (e): a BUS_START to a bus that is not idle. -/
theorem test_idle_duty :
    let s : State := { ready with program := [.write ready.cfg.base 4 0x52A07183#32] }
    s.turnDuty .host = true ∧ ({ s with busIdle0 := false } : State).turnDuty .host = false := by decide
/-- R290: a length past SER_MAX_LEN is issued. -/
theorem test_call_serial_start :
    (Call.serStart [0x41#8] 81#8).lines Config.twcore (fun _ => 0x40#7)
      = some [.wr 0x100 0x00000041#32, .cmd (.serStart 81#8)] := by decide

/-! ### Programs (30_encoding.md R144, R145; 44_host_interface.md R291) -/

/-- The reference boot sequence, as its text. -/
theorem test_assemble_boot :
    assemble Config.twcore (fun _ => 0x40#7)
      ["EM_INIT ; 0x20000000  all votes 0 (already 0 after reset)", "WR TMRCFG, 0x07020100", "BUS_OPEN 0",
        "SER_OPEN 5", "EVT_POST 4"] = some bootLines := by decide
/-- A pseudo-instruction, a condition and a command (W5, W8). -/
theorem test_assemble_lines :
    assemble Config.twcore (fun _ => 0x40#7)
      ["BUS_READ 0, 2, 0xE3, 3", "@BUS0.RXDATA 0x6B", "TRANSMIT \"AT\"", "RD RESP -> snap"]
      = some [.cmd (.busStart .bus0 .read 2#3 0x40#7 0xE3#8 3#5), .deliver 0x016B#13,
          .wr 0x100 0x00005441#32, .cmd (.serStart 2#8), .rd 0x004] := by decide

/-! ### Witnesses of the hypotheses of the obligations -/

theorem witness_EncodeInvertsDecode : decode (.command 0x573FFF9F#32)
    = .ok (.busStart .bus1 .read 4#3 0x7F#7 0xFF#8 31#5) := by rfl
theorem witness_ReservedOpcodeFaults :
    idle.PortOpen ∧ ((0x07FFFFFF#32 : Word).extractLsb' 27 5).toNat = 0
      ∧ 16 ≤ ((0x80000000#32 : Word).extractLsb' 27 5).toNat := by decide

/-- A word is an encoding only where it lies in the row of some command. -/
theorem encode_lies_in_row (i : Instr) : Sys2Proof.Laws.Matches.Statement i := by
  cases i
  case evtPost idx => exact Laws.Matches.evtPost idx
  case evtClear idx => exact Laws.Matches.evtClear idx
  case evtPending => exact Laws.Matches.evtPending
  case emInit => exact Laws.Matches.emInit
  case emBlock d => exact Laws.Matches.emBlock d
  case emUnblock d => exact Laws.Matches.emUnblock d
  case emFirstBlocked => exact Laws.Matches.emFirstBlocked
  case emSleep => exact Laws.Matches.emSleep
  case busOpen n => exact Laws.Matches.busOpen n
  case busStart n dir cnt dev reg evt => exact Laws.Matches.busStart n dir cnt dev reg evt
  case busAvail n => exact Laws.Matches.busAvail n
  case busRdata n => exact Laws.Matches.busRdata n
  case serOpen idx => exact Laws.Matches.serOpen idx
  case serStart n => exact Laws.Matches.serStart n
  case serAvail => exact Laws.Matches.serAvail
  case bus0Ack b => exact Laws.Matches.bus0Ack b
  case bus0Rxdata b => exact Laws.Matches.bus0Rxdata b
  case bus0Mstop b => exact Laws.Matches.bus0Mstop b
  case bus1Ack b => exact Laws.Matches.bus1Ack b
  case bus1Rxdata b => exact Laws.Matches.bus1Rxdata b
  case bus1Mstop b => exact Laws.Matches.bus1Mstop b
  case serTxbl b => exact Laws.Matches.serTxbl b
  case serTxc b => exact Laws.Matches.serTxc b
  case tmrComp0 b => exact Laws.Matches.tmrComp0 b
  case tmrComp1 b => exact Laws.Matches.tmrComp1 b
  case tmrUf b => exact Laws.Matches.tmrUf b

/-- A reserved opcode, and a reserved bit of EVT_POST. -/
theorem witness_WordsOutsideTheTableFault :
    idle.PortOpen ∧ (∀ i, encode i ≠ .command 0x80000000#32) ∧ ∀ i, encode i ≠ .command 0x08000020#32 := by
  refine ⟨by decide, fun i h => ?_, fun i h => ?_⟩ <;>
  · have hm := encode_lies_in_row i
    rw [Laws.Matches.Statement, h] at hm
    cases i <;> first
      | (simp [encode, formatCond] at h; done)
      | simp [Laws.Matches.row, Laws.Matches.inRow] at hm
theorem witness_OperandOutsideItsSetFaults :
    idle.PortOpen ∧ idle.cfg.nDepths ≤ (5#3 : BitVec 3).toNat ∧ (0#3 : BitVec 3).toNat = 0
      ∧ idle.cfg.maxBytes < (5#3 : BitVec 3).toNat ∧ idle.cfg.serMaxLen < (81#8 : Byte).toNat := by decide
theorem witness_CommandPortHolds :
    halted.fatal = true ∧ (recovering .bus0).cmdBusy = true
      ∧ encode (.evtPost 1#5) = .command 0x08000001#32 := by decide
theorem witness_ReservedConditionFaults :
    idle.fatal = false ∧ 4 ≤ (4#3 : BitVec 3).toNat ∧ (3#2 : BitVec 2) = 3#2
      ∧ ((2#3 : BitVec 3) = 2#3 ∧ (2#2 : BitVec 2) = 2#2) := by decide
theorem witness_ConditionsAfterFatalAreLost : halted.fatal = true := by decide
theorem witness_EvtPostSetsItsBit : idle.PortOpen ∧ (31#5 : BitVec 5).toNat < 32 := by decide
theorem witness_EvtClearClearsItsBit : idle.PortOpen ∧ (0#5 : BitVec 5).toNat < 32 := by decide
theorem witness_EvtPendingReadsTheSet : idle.PortOpen := by decide
theorem witness_TimerConditionsPost : ready.fatal = false ∧ ready.tmrCfg.getLsbD 26 = true := by decide
theorem witness_OnlyEvtClearClearsAnEvent :
    (∀ idx, Instr.evtPost 3#5 ≠ .evtClear idx) ∧ ({ idle with evt := 8#32 } : State).evt.getLsbD 3 = true := by
  decide
theorem witness_EmInitZeroesTheVotes : (busy .initWrite .write 1#3 0#32).PortOpen := by decide
/-- Room for one vote more, and none. -/
theorem witness_EmBlockAddsAVote :
    ({ idle with vote := [0, 0, 0, 0, 3] } : State).PortOpen
      ∧ (4#3 : BitVec 3).toNat < idle.cfg.nDepths
      ∧ ({ idle with vote := [0, 0, 0, 0, 3] } : State).Shape ∧ idle.cfg.voteBound < 2 ^ idle.cfg.voteW
      ∧ ({ idle with vote := [0, 0, 0, 0, 3] } : State).voteAt 4 + 1 < idle.cfg.voteBound
      ∧ ({ idle with vote := [0, 0, 0, 0, 4] } : State).Shape
      ∧ idle.cfg.voteBound ≤ ({ idle with vote := [0, 0, 0, 0, 4] } : State).voteAt 4 + 1 := by
  decide
theorem witness_EmUnblockTakesAVote :
    ({ idle with vote := [0, 0, 0, 0, 1] } : State).PortOpen
      ∧ (4#3 : BitVec 3).toNat < idle.cfg.nDepths
      ∧ ({ idle with vote := [0, 0, 0, 0, 1] } : State).Shape
      ∧ ({ idle with vote := [0, 0, 0, 0, 1] } : State).voteAt 4 ≠ 0
      ∧ idle.Shape ∧ idle.voteAt 4 = 0 := by decide
theorem witness_EmFirstBlockedFindsTheShallowest : (sending .stop 2#8 2#8).PortOpen := by decide
/-- f = 1, f = 2 and f = N_DEPTHS. -/
theorem witness_EmSleepPicksTheDepth :
    (({ idle with vote := [0, 1, 0, 0, 0] } : State).PortOpen
      ∧ (∀ d, d < 1 → ({ idle with vote := [0, 1, 0, 0, 0] } : State).voteAt d = 0)
      ∧ 1 < idle.cfg.nDepths ∧ ({ idle with vote := [0, 1, 0, 0, 0] } : State).voteAt 1 ≠ 0)
    ∧ ((∀ d, d < 2 → (busy .initWrite .read 1#3 0#32).voteAt d = 0) ∧ 2 < idle.cfg.nDepths
      ∧ (busy .initWrite .read 1#3 0#32).voteAt 2 ≠ 0)
    ∧ (∀ d, d < 5 → idle.voteAt d = 0) ∧ 5 = idle.cfg.nDepths := by decide
theorem witness_SleepMappingOfTwcore :
    idle.PortOpen ∧ idle.cfg = Config.twcore ∧ idle.vote = [0, 0, 0, 0, 0] := by decide
/-- A bus engine works and nothing else blocks; the serial engine works and nothing else blocks. -/
theorem witness_SleepStaysAboveEveryBlockedDepth :
    ((busy .initWrite .read 1#3 0#32).PortOpen ∧ (busy .initWrite .read 1#3 0#32).cfg.ok = true
      ∧ (busy .initWrite .read 1#3 0#32).VotesBacked ∧ (busy .initWrite .read 1#3 0#32).bus0.busy = true)
    ∧ (sending .stop 2#8 2#8).PortOpen ∧ (sending .stop 2#8 2#8).VotesBacked
      ∧ (sending .stop 2#8 2#8).sr.busy = true := by decide
/-- A vote and its release at depth 2, where three votes stand already. -/
theorem witness_BalancedVotingReturnsToItsStart :
    let s : State := threeVotes
    let os : List VoteOp := [{ isBlock := true, depth := 2#3 }, { isBlock := false, depth := 2#3 }]
    s.PortOpen ∧ s.Shape ∧ s.cfg.voteBound < 2 ^ s.cfg.voteW ∧ (∀ o, o ∈ os → o.depth.toNat < s.cfg.nDepths)
      ∧ ∀ (p : List VoteOp) (d : Nat), p <+: os → d < s.cfg.nDepths →
        0 ≤ (s.voteAt d : Int) + tally d p ∧ (s.voteAt d : Int) + tally d p < s.cfg.voteBound := by
  refine ⟨by decide, by decide, by decide, by decide, fun p d hp hd => ?_⟩
  have h := (List.mem_inits _ _).mpr hp
  have key : ∀ p ∈ List.inits [VoteOp.mk true 2#3, VoteOp.mk false 2#3], ∀ d < 5,
      0 ≤ (threeVotes.voteAt d : Int) + tally d p ∧ (threeVotes.voteAt d : Int) + tally d p < 5 := by decide
  exact key p h d hd
theorem witness_BusOpenBeginsRecovery :
    idle.PortOpen ∧ (idle.bus .bus1).opened = false ∧ ready.PortOpen ∧ (ready.bus .bus0).opened = true := by
  decide
theorem witness_MstopFinishesRecovery :
    (recovering .bus0).fatal = false ∧ ((recovering .bus0).bus .bus0).recov = true
      ∧ ((recovering .bus1).bus .bus1).recov = true := by decide
/-- The smallest and the largest count. -/
theorem witness_BusStartBeginsATransaction :
    ready.PortOpen ∧ 1 ≤ (1#3 : BitVec 3).toNat ∧ (4#3 : BitVec 3).toNat ≤ ready.cfg.maxBytes ∧ (ready.bus .bus1).opened = true
      ∧ (ready.bus .bus1).avail = true ∧ ready.busIdle .bus1 = true
      ∧ ready.voteAt ready.cfg.busBlockDepth + 1 < ready.cfg.voteBound := by decide
theorem witness_BusStartFaultsInOrder :
    (idle.PortOpen ∧ 1 ≤ (4#3 : BitVec 3).toNat ∧ (4#3 : BitVec 3).toNat ≤ ready.cfg.maxBytes
      ∧ (idle.bus .bus0).opened = false)
    ∧ (({ ready with busIdle0 := false } : State).PortOpen
      ∧ (({ ready with busIdle0 := false } : State).bus .bus0).opened = true
      ∧ (({ ready with busIdle0 := false } : State).bus .bus0).avail = true
      ∧ ({ ready with busIdle0 := false } : State).busIdle .bus0 = false)
    ∧ (({ ready with vote := [0, 0, 4, 0, 0] } : State).busIdle .bus0 = true
      ∧ ready.cfg.voteBound ≤ ({ ready with vote := [0, 0, 4, 0, 0] } : State).voteAt 2 + 1) := by
  decide
theorem witness_StartsHoldWhileBusy :
    ((busy .awaitStop .read 0#3 0#32).PortOpen ∧ 1 ≤ (1#3 : BitVec 3).toNat ∧ (1#3 : BitVec 3).toNat ≤ ready.cfg.maxBytes
      ∧ ((busy .awaitStop .read 0#3 0#32).bus .bus0).opened = true
      ∧ ((busy .awaitStop .read 0#3 0#32).bus .bus0).avail = false
      ∧ encode (.busStart .bus0 .write 1#3 0x40#7 0xE6#8 6#5) = .command 0x50607306#32)
    ∧ ((sending .stop 2#8 2#8).PortOpen ∧ (80#8 : Byte).toNat ≤ (sending .stop 2#8 2#8).cfg.serMaxLen
      ∧ (sending .stop 2#8 2#8).sr.opened = true ∧ (sending .stop 2#8 2#8).sr.avail = false
      ∧ encode (.serStart 80#8) = .command 0x70000050#32) := by decide
theorem witness_QueriesAnswerInResp : (busy .initRead .read 2#3 0#32).PortOpen := by decide
/-- One state for each clause; the counts at both ends. -/
theorem witness_AckAdvancesTheEngine :
    ((busy .initWrite .write 4#3 0#32).BusWorks .bus0 ∧ ((busy .initWrite .write 4#3 0#32).bus .bus0).Coherent Config.twcore
      ∧ ((busy .initWrite .write 4#3 0#32).bus .bus0).st = .initWrite ∧ ((busy .initWrite .write 4#3 0#32).bus .bus0).cnt = 4#3)
    ∧ ((busy .addrForRead .read 1#3 0#32).BusWorks .bus1 ∧ ((busy .addrForRead .read 1#3 0#32).bus .bus1).Coherent Config.twcore
      ∧ ((busy .addrForRead .read 1#3 0#32).bus .bus1).st = .addrForRead ∧ ((busy .addrForRead .read 1#3 0#32).bus .bus1).cnt = 1#3)
    ∧ ((busy .writeData .write 1#3 0#32).BusWorks .bus0 ∧ ((busy .writeData .write 1#3 0#32).bus .bus0).Coherent Config.twcore
      ∧ ((busy .writeData .write 1#3 0#32).bus .bus0).st = .writeData ∧ ((busy .writeData .write 1#3 0#32).bus .bus0).cnt = 1#3)
    ∧ ((busy .writeData .write 4#3 0#32).BusWorks .bus0 ∧ ((busy .writeData .write 4#3 0#32).bus .bus0).Coherent Config.twcore
      ∧ ((busy .writeData .write 4#3 0#32).bus .bus0).st = .writeData ∧ ((busy .writeData .write 4#3 0#32).bus .bus0).cnt = 4#3)
    ∧ ((busy .initRead .read 2#3 0#32).BusWorks .bus1 ∧ ((busy .initRead .read 2#3 0#32).bus .bus1).Coherent Config.twcore
      ∧ ((busy .initRead .read 2#3 0#32).bus .bus1).st = .initRead ∧ ((busy .initRead .read 2#3 0#32).bus .bus1).cnt = 2#3) := by
  refine ⟨⟨?_, ?_, ?_⟩, ⟨?_, ?_, ?_⟩, ⟨?_, ?_, ?_⟩, ⟨?_, ?_, ?_⟩, ⟨?_, ?_, ?_⟩⟩ <;> decide
/-- The last byte, with the others received, and the first of four. -/
theorem witness_RxdataPlacesTheByte :
    ((busy .initRead .read 1#3 0xDEADBE00#32).BusWorks .bus0 ∧ ((busy .initRead .read 1#3 0xDEADBE00#32).bus .bus0).Coherent Config.twcore
      ∧ ((busy .initRead .read 1#3 0xDEADBE00#32).bus .bus0).Unfilled
      ∧ (busy .initRead .read 1#3 0xDEADBE00#32).Shape
      ∧ (busy .initRead .read 1#3 0xDEADBE00#32).cfg.ok = true
      ∧ ((busy .initRead .read 1#3 0xDEADBE00#32).bus .bus0).st = .initRead ∧ ((busy .initRead .read 1#3 0xDEADBE00#32).bus .bus0).cnt = 1#3)
    ∧ ((busy .initRead .read 4#3 0#32).BusWorks .bus1 ∧ ((busy .initRead .read 4#3 0#32).bus .bus1).Coherent Config.twcore
      ∧ ((busy .initRead .read 4#3 0#32).bus .bus1).Unfilled ∧ (busy .initRead .read 4#3 0#32).Shape
      ∧ ((busy .initRead .read 4#3 0#32).bus .bus1).st = .initRead ∧ ((busy .initRead .read 4#3 0#32).bus .bus1).cnt = 4#3) := by
  refine ⟨⟨?_, ?_, ?_, ?_, ?_⟩, ⟨?_, ?_, ?_, ?_⟩⟩ <;> decide
theorem witness_MstopCompletesATransaction :
    ((busy .awaitStop .read 0#3 0#32).BusWorks .bus0
      ∧ ((busy .awaitStop .read 0#3 0#32).bus .bus0).st = .awaitStop
      ∧ (busy .awaitStop .read 0#3 0#32).voteAt 2 ≠ 0)
    ∧ ((after .emInit (busy .awaitStop .read 0#3 0#32)).BusWorks .bus0
      ∧ ((after .emInit (busy .awaitStop .read 0#3 0#32)).bus .bus0).st = .awaitStop
      ∧ (after .emInit (busy .awaitStop .read 0#3 0#32)).voteAt 2 = 0) := by decide
theorem witness_WrongBusConditionsFault :
    (ready.fatal = false ∧ (ready.bus .bus0).recov = false ∧ (ready.bus .bus0).opened = true
      ∧ (ready.bus .bus0).avail = true)
    ∧ ((busy .awaitStop .read 0#3 0#32).bus .bus1).recov = false
    ∧ ((busy .awaitStop .read 0#3 0#32).bus .bus1).st = .awaitStop
    ∧ ((busy .awaitStop .read 0#3 0#32).bus .bus1).st ≠ .initRead
    ∧ ((busy .initRead .read 1#3 0#32).bus .bus1).st ≠ .awaitStop := by decide
theorem witness_DiscardedBusConditionsOnlyWake :
    ((recovering .bus0).fatal = false ∧ ((recovering .bus0).bus .bus0).recov = true
      ∧ BusCond.ack ≠ BusCond.mstop)
    ∧ (idle.fatal = false ∧ (idle.bus .bus1).recov = false ∧ (idle.bus .bus1).opened = false) := by decide
theorem witness_BusEnginesAreIndependent :
    busOf (.bus0Rxdata 1#8) = some .bus0 ∧ BusId.bus1 ≠ BusId.bus0 := by decide
/-- One byte and four bytes. -/
theorem witness_ReadTransactionAssemblesTheBytes :
    ready.PortOpen ∧ ready.Shape ∧ ready.cfg.ok = true ∧ ready.VotesBounded ∧ (ready.bus .bus0).recov = false
      ∧ (ready.bus .bus0).opened = true ∧ (ready.bus .bus0).avail = true ∧ ready.busIdle .bus0 = true
      ∧ ready.voteAt ready.cfg.busBlockDepth + 1 < ready.cfg.voteBound
      ∧ 1 ≤ (1#3 : BitVec 3).toNat ∧ (4#3 : BitVec 3).toNat ≤ ready.cfg.maxBytes
      ∧ ([0x42#8] : List Byte).length = (1#3 : BitVec 3).toNat
      ∧ ([0xDE#8, 0xAD#8, 0xBE#8, 0xEF#8] : List Byte).length = (4#3 : BitVec 3).toNat := by decide
theorem witness_WriteTransactionSendsTheBytes :
    ready.PortOpen ∧ ready.Shape ∧ ready.cfg.ok = true ∧ ready.VotesBounded ∧ (ready.bus .bus1).recov = false
      ∧ (ready.bus .bus1).opened = true ∧ (ready.bus .bus1).avail = true ∧ ready.busIdle .bus1 = true
      ∧ ready.voteAt ready.cfg.busBlockDepth + 1 < ready.cfg.voteBound
      ∧ 1 ≤ (1#3 : BitVec 3).toNat ∧ (4#3 : BitVec 3).toNat ≤ ready.cfg.maxBytes := by decide
theorem witness_SerOpenMakesTheEngineReady :
    idle.PortOpen ∧ idle.sr.opened = false ∧ ready.PortOpen ∧ ready.sr.opened = true := by decide
/-- The shortest and the longest payload; an unopened engine; no room for a vote. -/
theorem witness_SerStartBeginsATransmission :
    (ready.PortOpen ∧ ready.Shape ∧ (0#8 : Byte).toNat ≤ ready.cfg.serMaxLen
      ∧ (80#8 : Byte).toNat ≤ ready.cfg.serMaxLen ∧ ready.sr.opened = true ∧ ready.sr.avail = true
      ∧ ready.voteAt ready.cfg.serBlockDepth + 1 < ready.cfg.voteBound)
    ∧ (idle.PortOpen ∧ idle.Shape ∧ idle.sr.opened = false)
    ∧ (({ ready with vote := [0, 0, 0, 4, 0] } : State).Shape
      ∧ ready.cfg.voteBound ≤ ({ ready with vote := [0, 0, 0, 4, 0] } : State).voteAt 3 + 1) := by
  decide
/-- A byte that is not the last, the last byte, an empty payload. -/
theorem witness_TxblSendsTheNextByte :
    ((sending .writeData 2#8 0#8).SerWorks ∧ (sending .writeData 2#8 0#8).SerCoherent
      ∧ (sending .writeData 2#8 0#8).sr.cur.toNat + 1 < (sending .writeData 2#8 0#8).sr.len.toNat)
    ∧ ((sending .writeData 2#8 1#8).SerCoherent
      ∧ (sending .writeData 2#8 1#8).sr.cur.toNat + 1 = (sending .writeData 2#8 1#8).sr.len.toNat)
    ∧ ((sending .writeData 0#8 0#8).SerCoherent
      ∧ (sending .writeData 0#8 0#8).sr.cur = (sending .writeData 0#8 0#8).sr.len) := by decide
theorem witness_TxcCompletesATransmission :
    ((sending .stop 2#8 2#8).SerWorks ∧ (sending .stop 2#8 2#8).sr.st = .stop
      ∧ (sending .stop 2#8 2#8).voteAt 3 ≠ 0)
    ∧ ((after (.emUnblock 3#3) (sending .stop 2#8 2#8)).SerWorks
      ∧ (after (.emUnblock 3#3) (sending .stop 2#8 2#8)).sr.st = .stop
      ∧ (after (.emUnblock 3#3) (sending .stop 2#8 2#8)).voteAt 3 = 0) := by decide
theorem witness_WrongSerialConditions :
    (ready.fatal = false ∧ ready.sr.opened = true ∧ ready.sr.avail = true)
    ∧ ((sending .stop 2#8 2#8).sr.opened = true ∧ (sending .stop 2#8 2#8).sr.st = .stop)
    ∧ (sending .writeData 2#8 0#8).sr.st = .writeData
    ∧ (idle.fatal = false ∧ idle.sr.opened = false) := by decide
theorem witness_TransmissionSendsThePayload :
    ready.PortOpen ∧ ready.Shape ∧ ready.cfg.ok = true ∧ ready.VotesBounded ∧ ready.sr.opened = true
      ∧ ready.sr.avail = true ∧ (0#8 : Byte).toNat ≤ ready.cfg.serMaxLen
      ∧ (80#8 : Byte).toNat ≤ ready.cfg.serMaxLen
      ∧ ready.voteAt ready.cfg.serBlockDepth + 1 < ready.cfg.voteBound := by decide
/-- The offsets on each side of every boundary of the address map. -/
theorem witness_RegisterReads :
    idle.Shape ∧ idle.cfg.serMaxLen ≤ 255
      ∧ ∀ off ∈ [0x000, 0x004, 0x008, 0x00C, 0x010, 0x014, 0x018, 0x0FC, 0x100, 0x14C, 0x150, 0x1FC],
        off < 0x200 ∧ off % 4 = 0 := by decide
/-- What those reads answer in one state (V-HOST-1 to V-HOST-9). -/
theorem witness_RegisterReads_values :
    readOf 0x000 ready = 0#32 ∧ readOf 0x008 ready = 0x003F0000#32 ∧ readOf 0x014 ready = 0x07020100#32
      ∧ readOf 0x018 ready = 0#32 ∧ readOf 0x0FC ready = 0#32 ∧ readOf 0x150 ready = 0#32
      ∧ readOf 0x1FC ready = 0#32 := by decide
theorem witness_RegisterWrites :
    ready.Shape ∧ ready.cfg.serMaxLen ≤ 255
      ∧ ∀ off ∈ [0x000, 0x004, 0x008, 0x00C, 0x010, 0x014, 0x018, 0x0FC, 0x100, 0x14C, 0x150, 0x1FC],
        off < 0x200 ∧ off % 4 = 0 := by decide
theorem witness_IllegalAccessFaults :
    (0x1FF < 0x200 ∧ 0x1FF % 4 ≠ 0) ∧ (0x000 < 0x200 ∧ 2 ≠ 4) ∧ idle.fatal = false ∧ halted.fatal = true := by
  decide
theorem witness_StepRunsTheDecodedInstruction :
    let s : State := { idle with turns := [.host], program := [.write idle.cfg.base 4 0x08000004#32] }
    let c : State := { idle with turns := [.cond 0x0C00#13] }
    (s.PortOpen ∧ s.asleep = false ∧ s.held = none ∧ s.turns = .host :: []
      ∧ s.program = .write s.cfg.base 4 0x08000004#32 :: []
      ∧ decode (.command 0x08000004#32) = .ok (.evtPost 4#5))
    ∧ (c.turns = .cond 0x0C00#13 :: [] ∧ decode (.condition 0x0C00#13) = .ok (.tmrComp0 0#8)) := by
  refine ⟨⟨by decide, rfl, rfl, rfl, rfl, rfl⟩, rfl, rfl⟩
/-- A held write on the host's turn and on a recheck, and a host that sleeps. -/
theorem witness_HostWaitsOnItsHeldWrite :
    let s : State := { ready with turns := [.host], held := some 0x08000001#32 }
    let r : State := { ready with turns := [.recheck], held := some 0x08000001#32 }
    (s.turns = .host :: [] ∧ s.asleep = false ∧ s.held = some 0x08000001#32)
    ∧ (r.turns = .recheck :: [] ∧ r.asleep = false ∧ r.held = some 0x08000001#32)
    ∧ ({ halted with turns := [.host] } : State).turns = .host :: [] ∧ halted.asleep = true := by decide
/-- A command that faults, and the delivery of a condition to an available engine. -/
theorem witness_FatalIsPrecise :
    (idle.fatal = false ∧ (after (.emUnblock 2#3) idle).fatal = true)
    ∧ ready.fatal = false ∧ ({ ready with turns := [.cond 0#13] } : State).turns = .cond 0#13 :: []
      ∧ (after (.bus0Ack 0#8) ready).fatal = true := by decide
theorem witness_FatalIsSticky :
    let s : State := { halted with turns := [.cond 0x0200#13] }
    s.fatal = true ∧ s.turns = .cond 0x0200#13 :: [] ∧ Turn.cond 0x0200#13 ≠ .powerOn := by decide
theorem witness_ConditionsWakeTheHost :
    encode (.tmrComp1 0#8) = .condition 0x0D00#13 ∧ ({ idle with asleep := true } : State).fatal = false := by
  decide
theorem witness_ConditionsLeaveTheHostsRegisters :
    encode (.serTxbl 7#8) = .condition 0x0807#13 := by decide
theorem witness_EnginesStayOpen :
    (ready.bus .bus0).opened = true ∧ ready.sr.opened = true
      ∧ (∀ n dir cnt dev reg evt, Instr.emInit ≠ .busStart n dir cnt dev reg evt) := by
  refine ⟨by decide, by decide, fun _ _ _ _ _ _ h => by cases h⟩
theorem witness_TracesOnlyGrow : ∀ rest, ({ ready with turns := [.cond 0#13] } : State).turns ≠ .powerOn :: rest := by
  intro rest h
  cases h

/-- The invariant in a state where both bus engines read. -/
theorem busy_inv : (busy .initRead .read 2#3 0#32).Inv :=
  ⟨by decide, by decide, by decide, by decide, by decide, by decide, by decide, by decide, by decide,
    by decide, by decide⟩
/-- The invariant in a state where the serial engine sends. -/
theorem sending_inv : (sending .writeData 2#8 1#8).Inv :=
  ⟨by decide, by decide, by decide, by decide, by decide, by decide, by decide, by decide, by decide,
    by decide, by decide⟩
/-- The invariant in a state where every engine is available. -/
theorem ready_inv : ready.Inv :=
  ⟨by decide, by decide, by decide, by decide, by decide, by decide, by decide, by decide, by decide,
    by decide, by decide⟩
/-- The invariant in the halted state. -/
theorem halted_inv : halted.Inv :=
  ⟨by decide, by decide, by decide, by decide, by decide, by decide, by decide, by decide, by decide,
    by decide, by decide⟩

theorem witness_EngineVotesStayCounted :
    (busy .initRead .read 2#3 0#32).Inv ∧ (busy .initRead .read 2#3 0#32).VotesBacked
      ∧ Instr.emBlock 2#3 ≠ .emInit ∧ ∀ d, Instr.emBlock 2#3 ≠ .emUnblock d :=
  ⟨busy_inv, by decide, by decide, fun _ h => by cases h⟩
/-- A byte for a reading engine, and TXBL for a sending one. -/
theorem witness_CorrectEnvironmentNeverFaults :
    ((busy .initRead .read 2#3 0#32).Inv ∧ (busy .initRead .read 2#3 0#32).fatal = false
      ∧ (busy .initRead .read 2#3 0#32).VotesBacked
      ∧ (busy .initRead .read 2#3 0#32).dutyMet 0x016B#13 = true)
    ∧ ((sending .writeData 2#8 1#8).Inv ∧ (sending .writeData 2#8 1#8).fatal = false
      ∧ (sending .writeData 2#8 1#8).VotesBacked
      ∧ (sending .writeData 2#8 1#8).dutyMet 0x0800#13 = true) :=
  ⟨⟨busy_inv, by decide, by decide, by decide⟩, sending_inv, by decide, by decide, by decide⟩
/-- A byte for a reading engine, and a BUS_START to an idle bus. -/
theorem witness_CorrectTurnsLeaveOnlyHostFaults :
    let s : State := { busy .initRead .read 2#3 0#32 with turns := [.cond 0x016B#13] }
    let r : State := { ready with turns := [.host], program := [.write ready.cfg.base 4 0x52A07183#32] }
    (s.Inv ∧ s.fatal = false ∧ s.VotesBacked ∧ s.turns = .cond 0x016B#13 :: []
      ∧ s.turnDuty (.cond 0x016B#13) = true)
    ∧ (r.Inv ∧ r.fatal = false ∧ r.VotesBacked ∧ r.turns = .host :: [] ∧ r.turnDuty .host = true) :=
  ⟨⟨busy_inv, by decide, by decide, rfl, by decide⟩, ready_inv, by decide, by decide, rfl, by decide⟩
theorem witness_ResetLeavesTheStatedState :
    ({ halted with turns := [.powerOn, .host] } : State).turns = .powerOn :: [.host] := by decide
theorem witness_EveryStepKeepsInv :
    (busy .initRead .read 2#3 0#32).Inv ∧ (sending .writeData 2#8 1#8).Inv ∧ halted.Inv :=
  ⟨busy_inv, sending_inv, halted_inv⟩

end Sys2Proof.Tests
end

section
/-! PROOFS. The aligned 32-bit host access as a read or write of the register it names
(44_host_interface.md R281, R282), and the STATUS word field by field (10_state.md R62). -/

namespace Sys2Proof.Machine

/-! ### Aligned accesses -/

/-- An offset inside the register space is recovered from its address (20_memory.md R80). -/
theorem offsetOf_base_add (p : Config.Params) {off : Nat} (hoff : off < regSpace) :
    offsetOf p (p.base + off) = some off := by
  simp [offsetOf, hoff]

/-- An aligned 32-bit read returns the register it names and changes nothing. -/
theorem readAccess_aligned (s : State) {off : Nat} (hoff : off < regSpace) (halign : off % 4 = 0) :
    readAccess (s.cfg.base + off) 4 s = (s.readReg (regAt s.cfg off), s) := by
  simp [readAccess, offsetOf_base_add s.cfg hoff, accessLegal, halign]

/-- An aligned 32-bit write is a write of the register it names. -/
theorem writeAccess_aligned (s : State) (v : Word) {off : Nat} (hoff : off < regSpace)
    (halign : off % 4 = 0) :
    writeAccess (s.cfg.base + off) 4 v s = writeReg (regAt s.cfg off) v s := by
  simp [writeAccess, offsetOf_base_add s.cfg hoff, accessLegal, halign]

/-! ### The STATUS word -/

theorem regAt_status (p : Config.Params) : regAt p 0x008 = .status := rfl

theorem readAccess_status (s : State) : readAccess (s.cfg.base + 0x008) 4 s = (s.status, s) := by
  rw [readAccess_aligned s (by decide) (by decide), regAt_status]
  rfl

theorem writeAccess_status (s : State) (v : Word) :
    writeAccess (s.cfg.base + 0x008) 4 v s = .next s := by
  rw [writeAccess_aligned s v (by decide) (by decide), regAt_status]
  rfl

/-- The one-bit fields, and the constant top bit. -/
theorem State.status_flags (s : State) :
    s.status.getLsbD 0 = s.fatal ∧ s.status.getLsbD 1 = s.cmdBusy
      ∧ s.status.getLsbD 16 = s.bus0.avail ∧ s.status.getLsbD 17 = s.bus1.avail
      ∧ s.status.getLsbD 18 = s.sr.avail ∧ s.status.getLsbD 19 = s.bus0.opened
      ∧ s.status.getLsbD 20 = s.bus1.opened ∧ s.status.getLsbD 21 = s.sr.opened
      ∧ s.status.getLsbD 22 = s.bus0.recov ∧ s.status.getLsbD 23 = s.bus1.recov
      ∧ s.status.getLsbD 31 = false := by
  unfold State.status
  simp only [BitVec.getLsbD_append]
  simp

/-- The code fields, and the two constant bits below FUNIT. -/
theorem State.status_codes (s : State) :
    s.status.extractLsb' 2 2 = 0#2 ∧ s.status.extractLsb' 4 4 = s.funit
      ∧ s.status.extractLsb' 8 8 = s.fcause ∧ s.status.extractLsb' 24 3 = s.bus0.st.code
      ∧ s.status.extractLsb' 27 3 = s.bus1.st.code ∧ s.status.extractLsb' 30 1 = s.sr.st.code := by
  unfold State.status
  simp (disch := decide) only [BitVec.extractLsb'_append_eq_of_add_le,
    BitVec.extractLsb'_append_eq_of_le]
  simp

theorem reset_status : State.reset.status = 0#32 := rfl

/-- Settles O44: the accesses at 0x008 reach STATUS, whose word holds each field at its place. -/
theorem statusShowsTheFlags : Obligations.StatusShowsTheFlags := by
  unfold Obligations.StatusShowsTheFlags
  refine ⟨reset_status, fun s => ⟨writeAccess_status s, s.status, readAccess_status s, ?_⟩⟩
  obtain ⟨hfatal, hbusy, havail0, havail1, havailS, hopen0, hopen1, hopenS, hrecov0, hrecov1, htop⟩ :=
    s.status_flags
  obtain ⟨hzero, hunit, hcause, hst0, hst1, hstS⟩ := s.status_codes
  exact ⟨hfatal, hbusy, hzero, hunit, hcause, havail0, havail1, havailS, hopen0, hopen1, hopenS,
    hrecov0, hrecov1, hst0, hst1, hstS, htop⟩

end Sys2Proof.Machine
end

section
/-! PROOFS. The words the decoder rejects for a reserved operation code or condition code
(30_encoding.md R120, R128), and the Fatal that delivering one raises (60_exceptions.md R313). -/

namespace Sys2Proof.Machine

/-! ### What the decoder rejects -/

/-- The codes without a row in R119 are 0 and 16 to 31. -/
theorem opcodeOf_eq_none_iff (opc : BitVec 5) :
    opcodeOf opc = none ↔ opc.toNat = 0 ∨ 16 ≤ opc.toNat := by
  revert opc
  decide

theorem decode_reservedOpcode {w : Word}
    (h : (w.extractLsb' 27 5).toNat = 0 ∨ 16 ≤ (w.extractLsb' 27 5).toNat) :
    decode (.command w) = .error (.reservedOpcode (w.extractLsb' 27 5)) := by
  simp [decode, decodeCommand, (opcodeOf_eq_none_iff _).2 h]

/-- The fields of a condition word (30_encoding.md R125). -/
theorem condWord_fields (src : BitVec 3) (cond : BitVec 2) (data : Byte) :
    (src ++ cond ++ data).extractLsb' 10 3 = src ∧ (src ++ cond ++ data).extractLsb' 8 2 = cond
      ∧ (src ++ cond ++ data).extractLsb' 0 8 = data := by
  simp (disch := decide) only [BitVec.extractLsb'_append_eq_of_add_le,
    BitVec.extractLsb'_append_eq_of_le]
  simp

/-- The codes without a row in R126: the sources above 3, condition 3 of every source, and
condition 2 of the serial engine. -/
theorem decode_reservedCondition {src : BitVec 3} {cond : BitVec 2} (data : Byte)
    (h : 4 ≤ src.toNat ∨ cond = 3#2 ∨ (src = 2#3 ∧ cond = 2#2)) :
    decode (.condition (src ++ cond ++ data)) = .error (.reservedCondition src cond data) := by
  obtain ⟨hsrc, hcond, hdata⟩ := condWord_fields src cond data
  simp only [decode, decodeCondition, hsrc, hcond, hdata]
  rw [BitVec.toNat_eq, BitVec.toNat_eq, BitVec.toNat_eq] at h
  simp only [BitVec.toNat_ofNat] at h
  split
  case h_12 => rfl
  all_goals omega

/-! ### What a rejected word raises -/

theorem cmdWrite_rejected {s : State} {w : Word} {r : Reject} (hport : s.PortOpen)
    (h : decode (.command w) = .error r) : cmdWrite w s = .next (s.raise (rejectFault r)) := by
  simp [cmdWrite, portHolds_of_open hport, h]

theorem condDeliver_rejected {s : State} {w : BitVec 13} {r : Reject} (hfatal : s.fatal = false)
    (h : decode (.condition w) = .error r) : condDeliver w s = .next (s.raise (rejectFault r)) := by
  simp [condDeliver, hfatal, h]

/-- FINFO of a fault of a command: INFO_B and TKIND are 0 (60_exceptions.md R313). -/
theorem finfo_of_command (u : UnitId) (c : Cause) (opc : BitVec 5) (a : Byte) :
    (fatalRec u c { isCond := false, code := opc } a).finfo = 0#19 ++ opc ++ a := by
  simp [FatalRec.finfo, fatalRec]

/-- FINFO of a fault of a condition: INFO_B is 0 and TKIND is 1 (60_exceptions.md R313). -/
theorem finfo_of_condition (u : UnitId) (c : Cause) (src : BitVec 3) (cond : BitVec 2) (a : Byte) :
    (fatalRec u c (Trig.condition src cond) a).finfo = 0#18 ++ 1#1 ++ src ++ cond ++ a := by
  have hassoc : 1#19 ++ (src ++ cond) = 1#19 ++ src ++ cond := by
    rw [BitVec.append_assoc, BitVec.cast_eq]
  simp [FatalRec.finfo, fatalRec, Trig.condition, hassoc]

/-- Settles O4: the decoder finds no row, and an open port raises what it rejects. -/
theorem reservedOpcodeFaults : Obligations.ReservedOpcodeFaults := by
  unfold Obligations.ReservedOpcodeFaults
  intro s w hport hopc
  rw [cmdWrite_rejected hport (decode_reservedOpcode hopc), State.raise, rejectFault,
    finfo_of_command]
  rfl

/-- Settles O8: the decoder finds no row, and the delivery raises what it rejects. -/
theorem reservedConditionFaults : Obligations.ReservedConditionFaults := by
  unfold Obligations.ReservedConditionFaults
  intro s src cond data hfatal hcode
  rw [condDeliver_rejected hfatal (decode_reservedCondition data hcode), State.raise, rejectFault,
    finfo_of_condition]
  rfl

end Sys2Proof.Machine
end

section
/-! PROOFS. The event scheduler and the timer router (40_scheduler.md R151, R153, R160): the words of
the event commands and of the timer conditions, and what each writes. -/

namespace Sys2Proof.Machine

/-! ### The words -/

/-- Format E is the operation code or-ed with IDX in the low bits (30_encoding.md R113). -/
theorem formatE_eq_or (o : Opcode) (idx : BitVec 5) :
    formatE o idx = .command ((o.bits ++ 0#22).shiftLeftZeroExtend 5 ||| idx.setWidth 32) := by
  rw [formatE, BitVec.append_def, BitVec.setWidth'_eq]

/-- A condition word is its code or-ed with DATA in the low bits (30_encoding.md R125). -/
theorem formatCond_eq_or (src : BitVec 3) (cond : BitVec 2) (data : Byte) :
    formatCond src cond data =
      .condition ((src ++ cond).shiftLeftZeroExtend 8 ||| data.setWidth 13) := by
  rw [formatCond, BitVec.append_def, BitVec.setWidth'_eq]

theorem encode_evtPost (idx : BitVec 5) :
    encode (.evtPost idx) = .command (0x08000000#32 ||| idx.setWidth 32) :=
  formatE_eq_or .evtPost idx

theorem encode_evtPending : encode .evtPending = .command 0x18000000#32 := by decide

theorem encode_tmrComp0 (data : Byte) :
    encode (.tmrComp0 data) = .condition (0x0C00#13 ||| data.setWidth 13) :=
  formatCond_eq_or 3#3 0#2 data

theorem encode_tmrComp1 (data : Byte) :
    encode (.tmrComp1 data) = .condition (0x0D00#13 ||| data.setWidth 13) :=
  formatCond_eq_or 3#3 1#2 data

theorem encode_tmrUf (data : Byte) :
    encode (.tmrUf data) = .condition (0x0E00#13 ||| data.setWidth 13) :=
  formatCond_eq_or 3#3 2#2 data

/-! ### The event commands on an open port -/

theorem exec_evtPost_open {s : State} (hport : s.PortOpen) (idx : BitVec 5) :
    exec (.evtPost idx) s = .next ((s.post idx).respond 0#32) :=
  command_open hport _ _

theorem exec_evtPending_open {s : State} (hport : s.PortOpen) :
    exec .evtPending s = .next (s.respond s.evt) :=
  command_open hport _ _

/-- Settles O10: the word is format E's, and the step posts and responds 0. -/
theorem evtPostSetsItsBit : Obligations.EvtPostSetsItsBit := by
  unfold Obligations.EvtPostSetsItsBit
  intro s idx hport
  exact ⟨encode_evtPost idx, (s.post idx).evt, exec_evtPost_open hport idx,
    fun j _ => post_getLsbD s idx j⟩

/-- Settles O12: the word is format N's, and the step responds with EVT. -/
theorem evtPendingReadsTheSet : Obligations.EvtPendingReadsTheSet := by
  unfold Obligations.EvtPendingReadsTheSet
  exact ⟨encode_evtPending, fun _ hport => exec_evtPending_open hport⟩

/-! ### The timer conditions -/

theorem exec_tmrInstr (c : TmrCond) (data : Byte) (s : State) :
    exec (tmrInstr c data) s = deliver s (timerRule c) := by
  cases c <;> rfl

/-- A timer condition wakes the host and, where it is enabled, posts its identifier. -/
theorem exec_tmrInstr_live {s : State} (hfatal : s.fatal = false) (c : TmrCond) (data : Byte) :
    exec (tmrInstr c data) s =
      .next (if tmrEnable s.tmrCfg c then s.wake.post (tmrIdx s.tmrCfg c) else s.wake) := by
  rw [exec_tmrInstr]
  exact deliver_ok hfatal (timerRule_ok c s.wake)

/-- The same with the event set bit by bit: enabled, the condition sets the bit of its identifier;
disabled, no bit. -/
theorem exec_tmrInstr_evt {s : State} (hfatal : s.fatal = false) (c : TmrCond) (data : Byte) :
    ∃ e, exec (tmrInstr c data) s = .next { s with evt := e, asleep := false }
      ∧ ∀ j, j < 32 → e.getLsbD j =
        (s.evt.getLsbD j || (tmrEnable s.tmrCfg c && decide (j = (tmrIdx s.tmrCfg c).toNat))) := by
  rw [exec_tmrInstr_live hfatal]
  cases hen : tmrEnable s.tmrCfg c with
  | true => exact ⟨_, rfl, fun j _ => post_getLsbD s.wake (tmrIdx s.tmrCfg c) j⟩
  | false => exact ⟨s.evt, rfl, fun j _ => by simp⟩

/-- Settles O13: the three words, and one argument for the three conditions. -/
theorem timerConditionsPost : Obligations.TimerConditionsPost := by
  unfold Obligations.TimerConditionsPost
  intro s data hfatal
  exact ⟨encode_tmrComp0 data, encode_tmrComp1 data, encode_tmrUf data,
    exec_tmrInstr_evt hfatal .comp0 data, exec_tmrInstr_evt hfatal .comp1 data,
    exec_tmrInstr_evt hfatal .uf data⟩

end Sys2Proof.Machine
end

section
/-! PROOFS. The energy-mode arbiter (41_arbiter.md R171, R175, R180): the words of EM_INIT,
EM_FIRST_BLOCKED and EM_SLEEP, the depth EM_SLEEP requests, and what each command writes. -/

namespace Sys2Proof.Machine

/-! ### The words -/

theorem encode_emInit : encode .emInit = .command 0x20000000#32 := by decide

theorem encode_emFirstBlocked : encode .emFirstBlocked = .command 0x38000000#32 := by decide

theorem encode_emSleep : encode .emSleep = .command 0x40000000#32 := by decide

/-! ### The arbiter commands on an open port -/

theorem exec_emInit_open {s : State} (hport : s.PortOpen) :
    exec .emInit s = .next ({ s with vote := List.replicate s.cfg.nDepths 0 }.respond 0#32) :=
  command_open hport _ _

theorem exec_emFirstBlocked_open {s : State} (hport : s.PortOpen) :
    exec .emFirstBlocked s = .next (s.respond (BitVec.ofNat 32 s.firstBlocked)) :=
  command_open hport _ _

theorem exec_emSleep_open {s : State} (hport : s.PortOpen) :
    exec .emSleep s = settle .emSleep s (sleepAttempt s) :=
  command_open hport _ _

/-- No depth to request: EM_SLEEP answers all ones and nothing else changes. -/
theorem exec_emSleep_refused {s : State} (hport : s.PortOpen) (h : s.sleepTarget = none) :
    exec .emSleep s = .next { s with resp := 0xFFFFFFFF#32 } := by
  rw [exec_emSleep_open hport, sleepAttempt, h]
  rfl

/-- A depth to request: EM_SLEEP emits it, puts the host to sleep and answers it. -/
theorem exec_emSleep_requests {s : State} {k : Nat} (hport : s.PortOpen)
    (h : s.sleepTarget = some k) :
    exec .emSleep s = .next { s with
      pwr := s.pwr ++ [.sleep k], asleep := true, resp := BitVec.ofNat 32 k } := by
  rw [exec_emSleep_open hport, sleepAttempt, h]
  rfl

/-! ### The depth EM_SLEEP requests (90_conflicts.md C1) -/

theorem sleepTarget_of_lt_two {s : State} (h : s.firstBlocked < 2) : s.sleepTarget = none :=
  if_pos (by omega)

theorem sleepTarget_of_unblocked {s : State} (h2 : 2 ≤ s.firstBlocked)
    (h : s.firstBlocked = s.cfg.nDepths) : s.sleepTarget = some s.cfg.deepestSleep := by
  rw [State.sleepTarget, if_neg (by omega), if_pos h]

theorem sleepTarget_of_blocked {s : State} (h2 : 2 ≤ s.firstBlocked)
    (h : s.firstBlocked < s.cfg.nDepths) : s.sleepTarget = some (s.firstBlocked - 1) := by
  rw [State.sleepTarget, if_neg (by omega), if_neg (by omega)]

/-! ### The obligations -/

/-- Settles O18: the answer is `firstBlocked`, which its description fixes. -/
theorem emFirstBlockedFindsTheShallowest : Obligations.EmFirstBlockedFindsTheShallowest := by
  unfold Obligations.EmFirstBlockedFindsTheShallowest
  exact ⟨encode_emFirstBlocked,
    fun s hport => ⟨s.firstBlocked, exec_emFirstBlocked_open hport, firstBlocked_spec s⟩⟩

/-- Settles O19: `f` is `firstBlocked`, and each of its three ranges fixes the depth requested. -/
theorem emSleepPicksTheDepth : Obligations.EmSleepPicksTheDepth := by
  unfold Obligations.EmSleepPicksTheDepth
  refine ⟨encode_emSleep, fun s f hport hfree hend => ?_⟩
  obtain rfl : s.firstBlocked = f := firstBlocked_unique hfree hend
  refine ⟨fun hlow => ?_, fun h2 hnone => ?_, fun h2 hblocked => ?_⟩
  · exact exec_emSleep_refused hport (sleepTarget_of_lt_two hlow)
  · exact exec_emSleep_requests hport (sleepTarget_of_unblocked h2 hnone)
  · exact exec_emSleep_requests hport (sleepTarget_of_blocked h2 hblocked)

/-- Settles O15: the word is format N's, and the open port commits the zeroed table, whoever voted. -/
theorem emInitZeroesTheVotes : Obligations.EmInitZeroesTheVotes := by
  unfold Obligations.EmInitZeroesTheVotes
  exact ⟨encode_emInit, fun _ hport => exec_emInit_open hport⟩

end Sys2Proof.Machine
end

section
/-! PROOFS. The bus engine one step at a time (42_bus_engine.md): BUS_OPEN and the recovery it begins
(R205, R232), and what a bus condition does by the state of its engine (R216 to R219, R225, R226, R230,
R233, R234). -/

namespace Sys2Proof.Machine

/-! ### The engine's record and trace beside the other fields -/

theorem State.post_setBus (s : State) (n : BusId) (b : BusEngine) (i : BitVec 5) :
    (s.setBus n b).post i = (s.post i).setBus n b := by
  cases n <;> rfl

/-- CMDBUSY is written past the engine's record and trace. -/
theorem State.setCmdBusy_emitBus_setBus (s : State) (n : BusId) (b : BusEngine)
    (as : List BusAction) (v : Bool) :
    { (s.setBus n b).emitBus n as with cmdBusy := v } =
      ({ s with cmdBusy := v }.setBus n b).emitBus n as := by
  cases n <;> rfl

/-- RESP is written past the engine's record and trace. -/
theorem State.respond_emitBus_setBus (s : State) (n : BusId) (b : BusEngine)
    (as : List BusAction) (v : Word) :
    ((s.setBus n b).emitBus n as).respond v = ((s.respond v).setBus n b).emitBus n as := by
  cases n <;> rfl

/-! ### The fault record of a bus engine (60_exceptions.md R311, R313) -/

theorem UnitId.code_bus (n : BusId) : (UnitId.bus n).code = if n = .bus0 then 3#4 else 4#4 := by
  cases n <;> rfl

theorem busSrc_eq (n : BusId) : busSrc n = if n = .bus0 then 0#3 else 1#3 := by
  cases n <;> rfl

/-- A state code in INFO_A. -/
theorem append_stateCode {w : Nat} (x : BitVec w) (code : BitVec 3) :
    x ++ code.setWidth 8 = x ++ 0#5 ++ code := by
  rw [BitVec.append_assoc, BitVec.cast_eq, BitVec.setWidth_eq_append (by decide), BitVec.cast_eq]

/-- SEQUENCE of BUS_OPEN, as it stands in the fault record. -/
theorem raise_openFault (s : State) (n : BusId) (st : BusSt) :
    s.raise (busFault n .sequence (Trig.command .busOpen) st) = { s with
      fatal := true, funit := (if n = .bus0 then 3#4 else 4#4), fcause := 0x03#8,
      finfo := 0#19 ++ 0b01001#5 ++ 0#5 ++ st.code } := by
  rw [State.raise, busFault, Trig.command, finfo_of_command, append_stateCode, ← UnitId.code_bus]
  rfl

/-- A condition in the wrong state, as it stands in the fault record. -/
theorem raise_wrongBusState (s : State) (n : BusId) (c : BusCond) (st : BusSt) :
    s.raise (wrongBusState n c st) = { s with
      fatal := true, funit := (if n = .bus0 then 3#4 else 4#4), fcause := (busBadCause c).code,
      finfo := 0#18 ++ 1#1 ++ (if n = .bus0 then 0#3 else 1#3) ++ busCondBits c ++ 0#5 ++ st.code } := by
  rw [State.raise, wrongBusState, busFault, Trig.busCond, finfo_of_condition, append_stateCode,
    ← UnitId.code_bus, ← busSrc_eq]
  rfl

/-! ### BUS_OPEN on an open port -/

theorem encode_busOpen (n : BusId) :
    encode (.busOpen n) = .command (if n = .bus0 then 0x48000000#32 else 0x4C000000#32) := by
  cases n <;> decide

theorem exec_busOpen_open {s : State} (hport : s.PortOpen) (n : BusId) :
    exec (.busOpen n) s = settle (.busOpen n) s (openAttempt n s) :=
  command_open hport _ _

/-- Settles O23: the two branches of `openAttempt`. -/
theorem busOpenBeginsRecovery : Obligations.BusOpenBeginsRecovery := by
  unfold Obligations.BusOpenBeginsRecovery
  intro s n hport
  refine ⟨encode_busOpen n, fun hclosed => ?_, fun hopened => ?_⟩
  · rw [exec_busOpen_open hport, openAttempt, if_neg (by simp [hclosed]), settle,
      State.setCmdBusy_emitBus_setBus, State.respond_emitBus_setBus]
    rfl
  · rw [exec_busOpen_open hport, openAttempt, if_pos hopened, settle, raise_openFault]

/-! ### The prelude of a bus condition (42_bus_engine.md R202) -/

theorem exec_busInstr (n : BusId) (c : BusCond) (data : Byte) (s : State) :
    exec (busInstr n c data) s = deliver s (busRule n c data) := by
  cases n <;> cases c <;> rfl

theorem exec_busInstr_ok {s t : State} {n : BusId} {c : BusCond} {data : Byte}
    (hfatal : s.fatal = false) (hrule : busRule n c data s.wake = .ok t) :
    exec (busInstr n c data) s = .next t := by
  rw [exec_busInstr, deliver_ok hfatal hrule]

theorem exec_busInstr_error {s : State} {r : FatalRec} {n : BusId} {c : BusCond} {data : Byte}
    (hfatal : s.fatal = false) (hrule : busRule n c data s.wake = .error r) :
    exec (busInstr n c data) s = .next (s.raise r) := by
  rw [exec_busInstr, deliver_error hfatal hrule]

theorem busRule_mstop_recovering {s : State} {n : BusId} (data : Byte)
    (hrecov : (s.bus n).recov = true) : busRule n .mstop data s = .ok (recoveryDone n s) := by
  simp [busRule, hrecov]

theorem busRule_recovering {s : State} {n : BusId} {c : BusCond} (data : Byte)
    (hrecov : (s.bus n).recov = true) (hc : c ≠ .mstop) : busRule n c data s = .ok s := by
  cases c with
  | ack | rxdata => simp [busRule, hrecov]
  | mstop => exact absurd rfl hc

theorem busRule_unopened {s : State} {n : BusId} (c : BusCond) (data : Byte)
    (hrecov : (s.bus n).recov = false) (hclosed : (s.bus n).opened = false) :
    busRule n c data s = .ok s := by
  simp [busRule, hrecov, hclosed]

theorem busRule_available {s : State} {n : BusId} (c : BusCond) (data : Byte)
    (hrecov : (s.bus n).recov = false) (hopened : (s.bus n).opened = true)
    (havail : (s.bus n).avail = true) :
    busRule n c data s = .error (wrongBusState n c (s.bus n).st) := by
  simp [busRule, hrecov, hopened, havail]

/-- The rule of a condition in a working engine. -/
def workRule (n : BusId) (c : BusCond) (data : Byte) (s : State) : Except FatalRec State :=
  match c with
  | .ack => ackRule n s
  | .rxdata => rxdataRule n data s
  | .mstop => mstopRule n s

theorem busRule_working {s : State} {n : BusId} (c : BusCond) (data : Byte)
    (hrecov : (s.bus n).recov = false) (hopened : (s.bus n).opened = true)
    (havail : (s.bus n).avail = false) : busRule n c data s = workRule n c data s := by
  cases c <;> simp [busRule, workRule, hrecov, hopened, havail]

/-- The wake leaves a working engine to its rule. -/
theorem busRule_wake_of_works {s : State} {n : BusId} (c : BusCond) (data : Byte)
    (hworks : s.BusWorks n) : busRule n c data s.wake = workRule n c data s.wake := by
  obtain ⟨-, hrecov, hopened, havail⟩ := hworks
  rw [← s.wake_bus n] at hrecov hopened havail
  exact busRule_working c data hrecov hopened havail

theorem exec_busInstr_works_ok {s t : State} {n : BusId} {c : BusCond} {data : Byte}
    (hworks : s.BusWorks n) (hrule : workRule n c data s.wake = .ok t) :
    exec (busInstr n c data) s = .next t :=
  exec_busInstr_ok hworks.1 ((busRule_wake_of_works c data hworks).trans hrule)

theorem exec_busInstr_works_error {s : State} {r : FatalRec} {n : BusId} {c : BusCond} {data : Byte}
    (hworks : s.BusWorks n) (hrule : workRule n c data s.wake = .error r) :
    exec (busInstr n c data) s = .next (s.raise r) :=
  exec_busInstr_error hworks.1 ((busRule_wake_of_works c data hworks).trans hrule)

/-! ### Recovery and discarded conditions -/

theorem recoveryDone_eq (n : BusId) (s : State) :
    recoveryDone n s = ({ s with cmdBusy := false }.setBus n
      { s.bus n with recov := false, opened := true, avail := true, st := .initWrite }).emitBus n
        [.ifc, .abort, .ienRestore] :=
  State.setCmdBusy_emitBus_setBus s n _ recoveryEnd false

/-- Settles O24: the prelude takes MSTOP to the end of the recovery. -/
theorem mstopFinishesRecovery : Obligations.MstopFinishesRecovery := by
  unfold Obligations.MstopFinishesRecovery
  intro s n data hfatal hrecov
  rw [exec_busInstr_ok hfatal (busRule_mstop_recovering data (by simpa using hrecov)),
    recoveryDone_eq, State.wake_bus]
  rfl

/-- Settles O33: the prelude answers the woken state in both cases. -/
theorem discardedBusConditionsOnlyWake : Obligations.DiscardedBusConditionsOnlyWake := by
  unfold Obligations.DiscardedBusConditionsOnlyWake
  intro s n c data hfatal hcase
  refine exec_busInstr_ok (t := s.wake) hfatal ?_
  rcases hcase with ⟨hrecov, hc⟩ | ⟨hrecov, hclosed⟩
  · exact busRule_recovering data (by simpa using hrecov) hc
  · exact busRule_unopened c data (by simpa using hrecov) (by simpa using hclosed)

/-! ### The count of the bytes to come (42_bus_engine.md R218) -/

theorem count_pred_toNat {c : BitVec 3} (h : c ≠ 0#3) : (c - 1).toNat = c.toNat - 1 := by
  bv_omega

theorem count_pred_eq_ofNat {c : BitVec 3} (h : c ≠ 0#3) : c - 1 = BitVec.ofNat 3 (c.toNat - 1) := by
  rw [← count_pred_toNat h, BitVec.ofNat_toNat, BitVec.setWidth_eq]

/-- A coherent working engine has bytes to come in every state but AWAIT_STOP. -/
theorem count_ne_zero_of_works {s : State} {n : BusId} (hworks : s.BusWorks n)
    (hcoh : (s.bus n).Coherent s.cfg) (hst : (s.bus n).st ≠ .awaitStop) : (s.bus n).cnt ≠ 0#3 := by
  obtain ⟨-, -, hopened, havail⟩ := hworks
  obtain ⟨-, -, -, hcount, -⟩ := hcoh
  exact fun hzero => hst ((hcount (by simp [BusEngine.busy, hopened, havail])).1 hzero)

/-! ### ACK in a working engine, state by state (42_bus_engine.md R216 to R219) -/

theorem ackRule_initWrite {s : State} {n : BusId} (hst : (s.bus n).st = .initWrite) :
    ackRule n s = .ok ((s.setBus n { s.bus n with
      st := (if (s.bus n).dir = Dir.write then .writeData else .addrForRead) }).emitBus n
        [.tx (s.bus n).reg]) := by
  cases hdir : (s.bus n).dir <;> simp [ackRule, hst, hdir]

theorem ackRule_addrForRead {s : State} {n : BusId} (hst : (s.bus n).st = .addrForRead) :
    ackRule n s = .ok ((s.setBus n { s.bus n with st := .initRead }).emitBus n
      [.rstartR (s.bus n).dev]) := by
  simp [ackRule, hst]

theorem ackRule_lastByte {s : State} {n : BusId} (hst : (s.bus n).st = .writeData)
    (hcnt : (s.bus n).cnt = 1#3) :
    ackRule n s = .ok ((s.setBus n { s.bus n with cnt := 0#3, st := .awaitStop }).emitBus n
      [.tx ((s.bus n).word.getD 0 0#8), .stop]) := by
  simp [ackRule, hst, hcnt, wordByte]

theorem ackRule_nextByte {s : State} {n : BusId} (hst : (s.bus n).st = .writeData)
    (hzero : (s.bus n).cnt ≠ 0#3) (hone : (s.bus n).cnt ≠ 1#3) :
    ackRule n s = .ok ((s.setBus n { s.bus n with
      cnt := BitVec.ofNat 3 ((s.bus n).cnt.toNat - 1) }).emitBus n
        [.tx ((s.bus n).word.getD ((s.bus n).cnt.toNat - 1) 0#8)]) := by
  have hmore : (s.bus n).cnt - 1 ≠ 0#3 := fun h => hone (sub_eq_zero.1 h)
  rw [← count_pred_eq_ofNat hzero, ← count_pred_toNat hzero]
  simp only [ackRule, hst, if_neg hmore, wordByte]

theorem ackRule_initRead {s : State} {n : BusId} (hst : (s.bus n).st = .initRead) :
    ackRule n s = .ok s := by
  simp [ackRule, hst]

/-- Settles O29: the rule of each state, on the woken state. -/
theorem ackAdvancesTheEngine : Obligations.AckAdvancesTheEngine := by
  unfold Obligations.AckAdvancesTheEngine
  intro s n data hworks hcoh
  have hzero := count_ne_zero_of_works hworks hcoh
  rw [← s.wake_bus n] at hzero ⊢
  refine ⟨fun hst => ?_, fun hst => ?_, fun hst hone => ?_, fun hst hone => ?_, fun hst => ?_⟩
  · exact exec_busInstr_works_ok hworks (ackRule_initWrite hst)
  · exact exec_busInstr_works_ok hworks (ackRule_addrForRead hst)
  · exact exec_busInstr_works_ok hworks (ackRule_lastByte hst hone)
  · exact exec_busInstr_works_ok hworks (ackRule_nextByte hst (hzero (by rw [hst]; decide)) hone)
  · exact exec_busInstr_works_ok hworks (ackRule_initRead hst)

/-! ### MSTOP in AWAIT_STOP (42_bus_engine.md R230) -/

theorem mstopRule_completes {s : State} {n : BusId} (hst : (s.bus n).st = .awaitStop)
    (hvote : s.voteAt s.cfg.busBlockDepth ≠ 0) :
    mstopRule n s = .ok (((s.setVote s.cfg.busBlockDepth (s.voteAt s.cfg.busBlockDepth - 1)).post
      (s.bus n).evt).setBus n { s.bus n with avail := true, st := .initWrite }) := by
  simp [mstopRule, hst, completeBus, voteUnblock_ok hvote, State.post_setBus]

theorem mstopRule_underflows {s : State} {n : BusId} (hst : (s.bus n).st = .awaitStop)
    (hvote : s.voteAt s.cfg.busBlockDepth = 0) :
    mstopRule n s = .error (fatalRec .arb .voteUnderflow (Trig.busCond n .mstop)
      (BitVec.ofNat 8 s.cfg.busBlockDepth)) := by
  simp [mstopRule, hst, completeBus, voteUnblock_error hvote]

/-- Settles O31: with a vote to release the transaction completes and posts its event; without one
the release underflows. -/
theorem mstopCompletesATransaction : Obligations.MstopCompletesATransaction := by
  unfold Obligations.MstopCompletesATransaction
  intro s n data hworks hst
  rw [← s.wake_bus n] at hst ⊢
  refine ⟨fun hvote => ?_, fun hvote => ?_⟩
  · exact ⟨_, exec_busInstr_works_ok hworks (mstopRule_completes hst hvote),
      fun j _ => post_getLsbD s (s.wake.bus n).evt j⟩
  · rw [exec_busInstr_works_error (c := .mstop) hworks (mstopRule_underflows hst hvote), State.raise,
      Trig.busCond, finfo_of_condition, busSrc_eq]
    rfl

/-! ### Conditions in the wrong state (42_bus_engine.md R225, R226) -/

theorem ackRule_awaitStop {s : State} {n : BusId} (hst : (s.bus n).st = .awaitStop) :
    ackRule n s = .error (wrongBusState n .ack (s.bus n).st) := by
  simp [ackRule, hst]

theorem rxdataRule_wrong {s : State} {n : BusId} (data : Byte) (hst : (s.bus n).st ≠ .initRead) :
    rxdataRule n data s = .error (wrongBusState n .rxdata (s.bus n).st) := by
  cases h : (s.bus n).st with
  | initRead => exact absurd h hst
  | initWrite | addrForRead | writeData | awaitStop => simp [rxdataRule, h]

theorem mstopRule_wrong {s : State} {n : BusId} (hst : (s.bus n).st ≠ .awaitStop) :
    mstopRule n s = .error (wrongBusState n .mstop (s.bus n).st) := by
  cases h : (s.bus n).st with
  | awaitStop => exact absurd h hst
  | initWrite | addrForRead | initRead | writeData => simp [mstopRule, h]

/-- An open engine faults on a condition when it is available, and when its state's rule faults. -/
theorem exec_busInstr_wrong {s : State} {n : BusId} {c : BusCond} {data : Byte}
    (hfatal : s.fatal = false) (hrecov : (s.bus n).recov = false) (hopened : (s.bus n).opened = true)
    (hwrong : (s.bus n).avail = true
      ∨ workRule n c data s.wake = .error (wrongBusState n c (s.wake.bus n).st)) :
    exec (busInstr n c data) s = .next (s.raise (wrongBusState n c (s.bus n).st)) := by
  rw [← s.wake_bus n] at hrecov hopened ⊢
  refine exec_busInstr_error hfatal ?_
  cases havail : (s.wake.bus n).avail with
  | true => exact busRule_available c data hrecov hopened havail
  | false =>
    rw [busRule_working c data hrecov hopened havail]
    exact hwrong.resolve_left (ne_true_of_eq_false havail)

/-- Settles O32: each condition faults in an available engine, and in the states outside its rule. -/
theorem wrongBusConditionsFault : Obligations.WrongBusConditionsFault := by
  unfold Obligations.WrongBusConditionsFault
  intro s n data hfatal hrecov hopened
  refine ⟨fun hwrong => ?_, fun hwrong => ?_, fun hwrong => ?_⟩
  · rw [exec_busInstr_wrong (c := .ack) hfatal hrecov hopened
      (hwrong.imp_right fun hst => ackRule_awaitStop (by simpa using hst)), raise_wrongBusState]
    rfl
  · rw [exec_busInstr_wrong (c := .rxdata) hfatal hrecov hopened
      (hwrong.imp_right fun hst => rxdataRule_wrong data (by simpa using hst)), raise_wrongBusState]
    rfl
  · rw [exec_busInstr_wrong (c := .mstop) hfatal hrecov hopened
      (hwrong.imp_right fun hst => mstopRule_wrong (by simpa using hst)), raise_wrongBusState]
    rfl

end Sys2Proof.Machine
end

section
/-! PROOFS. The serial engine opened and misaddressed (43_serial_engine.md): SER_OPEN (R252), and the serial
conditions that fault or only wake the host (R265 to R267). -/

namespace Sys2Proof.Machine

/-! ### The fault record of the serial engine (60_exceptions.md R311, R313) -/

/-- A serial state code in INFO_A. -/
theorem append_serStateCode {w : Nat} (x : BitVec w) (code : BitVec 1) :
    x ++ code.setWidth 8 = x ++ 0#7 ++ code := by
  rw [BitVec.append_assoc, BitVec.cast_eq, BitVec.setWidth_eq_append (by decide), BitVec.cast_eq]

/-- SEQUENCE of a serial command, as it stands in the fault record. -/
theorem raise_serSequence (s : State) (o : Opcode) (st : SerSt) :
    s.raise (serFault .sequence (Trig.command o) st) = { s with
      fatal := true, funit := 5#4, fcause := 0x03#8, finfo := 0#19 ++ o.bits ++ 0#7 ++ st.code } := by
  rw [State.raise, serFault, Trig.command, finfo_of_command, append_serStateCode]
  rfl

/-- A serial condition in the wrong state, as it stands in the fault record. -/
theorem raise_wrongSerState (s : State) (c : SerCond) (st : SerSt) :
    s.raise (serFault (serBadCause c) (Trig.serCond c) st) = { s with
      fatal := true, funit := 5#4, fcause := (serBadCause c).code,
      finfo := 0#18 ++ 1#1 ++ 2#3 ++ serCondBits c ++ 0#7 ++ st.code } := by
  rw [State.raise, serFault, Trig.serCond, finfo_of_condition, append_serStateCode]
  rfl

/-! ### SER_OPEN on an open port -/

theorem encode_serOpen (idx : BitVec 5) :
    encode (.serOpen idx) = .command (0x68000000#32 ||| idx.setWidth 32) :=
  formatE_eq_or .serOpen idx

theorem exec_serOpen_open {s : State} (hport : s.PortOpen) (idx : BitVec 5) :
    exec (.serOpen idx) s = settle (.serOpen idx) s (serOpenAttempt idx s) :=
  command_open hport _ _

/-- Settles O37: the word is format E's, and the step takes one of the two branches of
`serOpenAttempt`. -/
theorem serOpenMakesTheEngineReady : Obligations.SerOpenMakesTheEngineReady := by
  unfold Obligations.SerOpenMakesTheEngineReady
  intro s idx hport
  refine ⟨encode_serOpen idx, fun hclosed => ?_, fun hopened => ?_⟩
  · rw [exec_serOpen_open hport, serOpenAttempt, if_neg (by simp [hclosed])]
    rfl
  · rw [exec_serOpen_open hport, serOpenAttempt, if_pos hopened, settle, raise_serSequence]
    rfl

/-! ### The prelude of a serial condition (43_serial_engine.md R251) -/

theorem exec_serInstr (c : SerCond) (data : Byte) (s : State) :
    exec (serInstr c data) s = deliver s (serRule c) := by
  cases c <;> rfl

theorem serRule_unopened {s : State} (c : SerCond) (hclosed : s.sr.opened = false) :
    serRule c s = .ok s :=
  if_pos hclosed

theorem serRule_available {s : State} (c : SerCond) (hopened : s.sr.opened = true)
    (havail : s.sr.avail = true) :
    serRule c s = .error (serFault (serBadCause c) (Trig.serCond c) s.sr.st) := by
  simp [serRule, hopened, havail]

/-- The rule of a condition in a working engine. -/
def serWorkRule (c : SerCond) (s : State) : Except FatalRec State :=
  match c with
  | .txbl => txblRule s
  | .txc => txcRule s

theorem serRule_working {s : State} (c : SerCond) (hopened : s.sr.opened = true)
    (havail : s.sr.avail = false) : serRule c s = serWorkRule c s := by
  cases c <;> simp [serRule, serWorkRule, hopened, havail]

/-! ### Conditions in the wrong state or to an unopened engine (43_serial_engine.md R265 to R267) -/

theorem txblRule_stop {s : State} (hst : s.sr.st = .stop) :
    txblRule s = .error (serFault .serTxblState (Trig.serCond .txbl) s.sr.st) := by
  simp [txblRule, hst]

theorem txcRule_writeData {s : State} (hst : s.sr.st = .writeData) :
    txcRule s = .error (serFault .serTxcState (Trig.serCond .txc) s.sr.st) := by
  simp [txcRule, hst]

/-- An open engine faults on a condition when it is available, and when its state's rule faults; the
record holds the cause of the condition and the state. -/
theorem exec_serInstr_wrong {s : State} {c : SerCond} (data : Byte) (hfatal : s.fatal = false)
    (hopened : s.sr.opened = true)
    (hwrong : s.sr.avail = true
      ∨ serWorkRule c s.wake = .error (serFault (serBadCause c) (Trig.serCond c) s.sr.st)) :
    exec (serInstr c data) s = .next { s with
      fatal := true, funit := 5#4, fcause := (serBadCause c).code,
      finfo := 0#18 ++ 1#1 ++ 2#3 ++ serCondBits c ++ 0#7 ++ s.sr.st.code } := by
  rw [exec_serInstr, ← raise_wrongSerState]
  refine deliver_error hfatal ?_
  cases havail : s.sr.avail with
  | true => exact serRule_available (s := s.wake) c hopened havail
  | false =>
    rw [serRule_working (s := s.wake) c hopened havail]
    exact hwrong.resolve_left (ne_true_of_eq_false havail)

/-- An unopened engine leaves a condition with nothing but the wake. -/
theorem exec_serInstr_unopened {s : State} (c : SerCond) (data : Byte) (hfatal : s.fatal = false)
    (hclosed : s.sr.opened = false) : exec (serInstr c data) s = .next s.wake := by
  rw [exec_serInstr]
  exact deliver_ok hfatal (serRule_unopened (s := s.wake) c hclosed)

/-- Settles O41: each condition faults in an available engine and in the state outside its rule, and
an unopened engine discards both. -/
theorem wrongSerialConditions : Obligations.WrongSerialConditions := by
  unfold Obligations.WrongSerialConditions
  intro s data hfatal
  refine ⟨fun hopened hwrong => ?_, fun hopened hwrong => ?_, fun hclosed => ⟨?_, ?_⟩⟩
  · exact exec_serInstr_wrong (c := .txbl) data hfatal hopened
      (hwrong.imp_right (txblRule_stop (s := s.wake)))
  · exact exec_serInstr_wrong (c := .txc) data hfatal hopened
      (hwrong.imp_right (txcRule_writeData (s := s.wake)))
  · exact exec_serInstr_unopened .txbl data hfatal hclosed
  · exact exec_serInstr_unopened .txc data hfatal hclosed

end Sys2Proof.Machine
end

section
/-! PROOFS. The host access of a wrong width or at a misaligned offset (44_host_interface.md R284):
Fatal(HOSTIF, ACCESS), and nothing under FATAL. -/

namespace Sys2Proof.Machine

/-! ### The illegal access -/

theorem accessLegal_eq_false {off width : Nat} (hillegal : width ≠ 4 ∨ off % 4 ≠ 0) :
    accessLegal off width = false := by
  rw [accessLegal, Bool.and_eq_false_iff]
  exact hillegal.imp decide_eq_false decide_eq_false

/-- An illegal read returns 0, and its only effect is the access fault. -/
theorem readAccess_illegal (s : State) {off width : Nat} (hoff : off < regSpace)
    (hillegal : width ≠ 4 ∨ off % 4 ≠ 0) :
    readAccess (s.cfg.base + off) width s = (0#32, s.accessFatal off width) := by
  simp [readAccess, offsetOf_base_add s.cfg hoff, accessLegal_eq_false hillegal]

/-- An illegal write reaches no register: its only effect is the access fault. -/
theorem writeAccess_illegal (s : State) (v : Word) {off width : Nat} (hoff : off < regSpace)
    (hillegal : width ≠ 4 ∨ off % 4 ≠ 0) :
    writeAccess (s.cfg.base + off) width v s = .next (s.accessFatal off width) := by
  simp [writeAccess, offsetOf_base_add s.cfg hoff, accessLegal_eq_false hillegal]

/-! ### The access fault -/

/-- FINFO of the access fault: TKIND and TRIG are 0 (60_exceptions.md R313). -/
theorem finfo_accessFault (off width : Nat) :
    (accessFault off width).finfo = BitVec.ofNat 16 off ++ 0#8 ++ BitVec.ofNat 8 width := by
  have hzero : BitVec.ofNat 16 off ++ 0#2 ++ 0#1 ++ 0#5 = BitVec.ofNat 16 off ++ 0#8 := by
    simp only [BitVec.append_assoc, BitVec.cast_eq]
    rfl
  exact congrArg (· ++ BitVec.ofNat 8 width) hzero

/-- The access fault as it stands in the fault record. -/
theorem State.accessFatal_of_not_fatal {s : State} (off width : Nat) (hfatal : s.fatal = false) :
    s.accessFatal off width = { s with
      fatal := true, funit := 0#4, fcause := 0x0D#8,
      finfo := BitVec.ofNat 16 off ++ 0#8 ++ BitVec.ofNat 8 width } := by
  rw [State.accessFatal, if_neg (ne_true_of_eq_false hfatal), State.raise, finfo_accessFault]
  rfl

/-- The first fault is kept (60_exceptions.md R316). -/
theorem State.accessFatal_of_fatal {s : State} (off width : Nat) (hfatal : s.fatal = true) :
    s.accessFatal off width = s :=
  if_pos hfatal

/-- Settles O46: an illegal access is the access fault, which raises while FATAL is 0 and is dropped
under FATAL. -/
theorem illegalAccessFaults : Obligations.IllegalAccessFaults := by
  unfold Obligations.IllegalAccessFaults
  intro s off width v hoff hillegal
  rw [readAccess_illegal s hoff hillegal, writeAccess_illegal s v hoff hillegal]
  refine ⟨fun hfatal => ?_, fun hfatal => ?_⟩
  · rw [State.accessFatal_of_not_fatal off width hfatal]
    exact ⟨rfl, rfl⟩
  · rw [State.accessFatal_of_fatal off width hfatal]
    exact ⟨rfl, rfl⟩

end Sys2Proof.Machine
end

section
/-! PROOFS. The fault model over every instruction and every turn (60_exceptions.md): a Fatal commits nothing
but its record (R315), conditions are lost under FATAL (R317), and a delivered condition wakes the host
(R333). -/

namespace Sys2Proof.Machine

/-! ### The rules of the conditions leave FATAL and the host's sleep alone -/

theorem recoveryDone_keeps_fatal_asleep (n : BusId) (s : State) :
    (recoveryDone n s).fatal = s.fatal ∧ (recoveryDone n s).asleep = s.asleep := by
  simp [recoveryDone]

theorem ackRule_keeps_fatal_asleep {n : BusId} {s t : State} (h : ackRule n s = .ok t) :
    t.fatal = s.fatal ∧ t.asleep = s.asleep := by
  rcases ackRule_ok h with ⟨-, rfl⟩ | ⟨-, rfl⟩ | ⟨-, -, rfl⟩ | ⟨-, -, rfl⟩ | ⟨-, rfl⟩ <;> simp

theorem rxdataRule_keeps_fatal_asleep {n : BusId} {b : Byte} {s t : State}
    (h : rxdataRule n b s = .ok t) : t.fatal = s.fatal ∧ t.asleep = s.asleep := by
  obtain ⟨-, ⟨-, rfl⟩ | ⟨-, rfl⟩⟩ := rxdataRule_ok h <;> simp

theorem mstopRule_keeps_fatal_asleep {n : BusId} {s t : State} (h : mstopRule n s = .ok t) :
    t.fatal = s.fatal ∧ t.asleep = s.asleep := by
  obtain ⟨-, -, rfl⟩ := mstopRule_ok h
  simp

theorem busRule_keeps_fatal_asleep {n : BusId} {c : BusCond} {b : Byte} {s t : State}
    (h : busRule n c b s = .ok t) : t.fatal = s.fatal ∧ t.asleep = s.asleep := by
  rcases busRule_ok h with ⟨-, -, rfl⟩ | ⟨-, rfl⟩ | ⟨-, -, -, ⟨-, hr⟩ | ⟨-, hr⟩ | ⟨-, hr⟩⟩
  · exact recoveryDone_keeps_fatal_asleep n s
  · exact ⟨rfl, rfl⟩
  · exact ackRule_keeps_fatal_asleep hr
  · exact rxdataRule_keeps_fatal_asleep hr
  · exact mstopRule_keeps_fatal_asleep hr

theorem sendByte_keeps_fatal_asleep (s : State) :
    (sendByte s).fatal = s.fatal ∧ (sendByte s).asleep = s.asleep := by
  unfold sendByte
  split <;> exact ⟨rfl, rfl⟩

theorem endBytes_keeps_fatal_asleep (s : State) :
    (endBytes s).fatal = s.fatal ∧ (endBytes s).asleep = s.asleep := by
  unfold endBytes
  split <;> exact ⟨rfl, rfl⟩

theorem serRule_keeps_fatal_asleep {c : SerCond} {s t : State} (h : serRule c s = .ok t) :
    t.fatal = s.fatal ∧ t.asleep = s.asleep := by
  rcases serRule_ok h with ⟨-, rfl⟩ | ⟨-, -, ⟨-, -, rfl⟩ | ⟨-, hr⟩⟩
  · exact ⟨rfl, rfl⟩
  · obtain ⟨hfatal, hasleep⟩ := endBytes_keeps_fatal_asleep (sendByte s)
    obtain ⟨hfatal', hasleep'⟩ := sendByte_keeps_fatal_asleep s
    exact ⟨hfatal.trans hfatal', hasleep.trans hasleep'⟩
  · obtain ⟨-, -, rfl⟩ := txcRule_ok hr
    exact ⟨rfl, rfl⟩

theorem timerRule_keeps_fatal_asleep {c : TmrCond} {s t : State} (h : timerRule c s = .ok t) :
    t.fatal = s.fatal ∧ t.asleep = s.asleep := by
  obtain rfl := Except.ok.inj ((timerRule_ok c s).symm.trans h)
  split <;> exact ⟨rfl, rfl⟩

/-! ### The attempts of the commands that can fault leave FATAL alone when they commit -/

theorem blockAttempt_commit_fatal {s t : State} {d : BitVec 3} (h : blockAttempt d s = .commit t) :
    t.fatal = s.fatal := by
  obtain ⟨-, -, rfl⟩ := blockAttempt_commit h
  rfl

theorem unblockAttempt_commit_fatal {s t : State} {d : BitVec 3}
    (h : unblockAttempt d s = .commit t) : t.fatal = s.fatal := by
  obtain ⟨-, -, rfl⟩ := unblockAttempt_commit h
  rfl

theorem sleepAttempt_commit_fatal {s t : State} (h : sleepAttempt s = .commit t) :
    t.fatal = s.fatal := by
  obtain ⟨-, rfl⟩ | ⟨-, -, rfl⟩ := sleepAttempt_commit h <;> rfl

theorem openAttempt_commit_fatal {s t : State} {n : BusId} (h : openAttempt n s = .commit t) :
    t.fatal = s.fatal := by
  obtain ⟨-, rfl⟩ := openAttempt_commit h
  simp

theorem startAttempt_commit_fatal {s t : State} {n : BusId} {dir : Dir} {cnt : BitVec 3}
    {dev : BitVec 7} {reg : Byte} {evt : BitVec 5}
    (h : startAttempt n dir cnt dev reg evt s = .commit t) : t.fatal = s.fatal := by
  obtain ⟨-, -, -, -, -, rfl⟩ := startAttempt_commit h
  simp

theorem serOpenAttempt_commit_fatal {s t : State} {idx : BitVec 5}
    (h : serOpenAttempt idx s = .commit t) : t.fatal = s.fatal := by
  obtain ⟨-, rfl⟩ := serOpenAttempt_commit h
  rfl

theorem serStartAttempt_commit_fatal {s t : State} {len : Byte}
    (h : serStartAttempt len s = .commit t) : t.fatal = s.fatal := by
  obtain ⟨-, -, -, -, rfl⟩ := serStartAttempt_commit h
  rfl

/-! ### Every instruction is a command or a condition -/

/-- An instruction with a command word takes the common step of a command, with an attempt that does
not set FATAL by committing. -/
theorem exec_of_commandWord {i : Instr} {w : Word} (h : encode i = .command w) (s : State) :
    ∃ a, exec i s = command i s a ∧ ∀ t, a = .commit t → t.fatal = s.fatal := by
  cases i
  case evtPost | evtClear | evtPending | emInit | emFirstBlocked | busAvail | busRdata | serAvail =>
    exact ⟨_, rfl, fun _ ha => by cases ha; rfl⟩
  case emBlock => exact ⟨_, rfl, fun _ => blockAttempt_commit_fatal⟩
  case emUnblock => exact ⟨_, rfl, fun _ => unblockAttempt_commit_fatal⟩
  case emSleep => exact ⟨_, rfl, fun _ => sleepAttempt_commit_fatal⟩
  case busOpen => exact ⟨_, rfl, fun _ => openAttempt_commit_fatal⟩
  case busStart => exact ⟨_, rfl, fun _ => startAttempt_commit_fatal⟩
  case serOpen => exact ⟨_, rfl, fun _ => serOpenAttempt_commit_fatal⟩
  case serStart => exact ⟨_, rfl, fun _ => serStartAttempt_commit_fatal⟩
  all_goals cases h

/-- An instruction with a condition word takes the common step of a condition, with a rule that leaves
FATAL and the host's sleep alone. -/
theorem exec_of_conditionWord {i : Instr} {w : BitVec 13} (h : encode i = .condition w) :
    ∃ rule, (∀ s, exec i s = deliver s rule)
      ∧ ∀ s t, rule s = .ok t → t.fatal = s.fatal ∧ t.asleep = s.asleep := by
  cases i
  case bus0Ack | bus0Rxdata | bus0Mstop | bus1Ack | bus1Rxdata | bus1Mstop =>
    exact ⟨_, fun _ => rfl, fun _ _ => busRule_keeps_fatal_asleep⟩
  case serTxbl | serTxc => exact ⟨_, fun _ => rfl, fun _ _ => serRule_keeps_fatal_asleep⟩
  case tmrComp0 | tmrComp1 | tmrUf => exact ⟨_, fun _ => rfl, fun _ _ => timerRule_keeps_fatal_asleep⟩
  all_goals cases h

/-! ### Conditions: lost under FATAL, else they wake the host -/

/-- What a condition word decodes to is a condition. -/
theorem encode_of_decode_condition {w : BitVec 13} {i : Instr} (h : decode (.condition w) = .ok i) :
    ∃ w', encode i = .condition w' := by
  simp only [decode, decodeCondition] at h
  split at h <;> cases h <;> exact ⟨_, rfl⟩

/-- Settles O9: a word that decodes is lost in the common step of a condition, and the others raise
nothing under FATAL. -/
theorem conditionsAfterFatalAreLost : Obligations.ConditionsAfterFatalAreLost := by
  unfold Obligations.ConditionsAfterFatalAreLost
  intro s w hfatal
  cases hdec : decode (.condition w) with
  | error r => simp [condDeliver, hdec, hfatal]
  | ok i =>
    obtain ⟨w', henc⟩ := encode_of_decode_condition hdec
    obtain ⟨rule, hexec, -⟩ := exec_of_conditionWord henc
    simp [condDeliver, hdec, hexec, deliver_lost hfatal]

/-- Settles O51: the common step wakes the host, and no rule puts it back to sleep. -/
theorem conditionsWakeTheHost : Obligations.ConditionsWakeTheHost := by
  unfold Obligations.ConditionsWakeTheHost
  intro i w s henc hfatal
  obtain ⟨rule, hexec, hkeeps⟩ := exec_of_conditionWord henc
  rw [hexec]
  refine deliver_elim (fun hset => ?lost) (fun r _ _ hclear => ?raised) (fun t _ hrule _ => ?done)
  case lost => simp [hfatal] at hset
  case raised => simp at hclear
  case done =>
    obtain ⟨-, hasleep⟩ := hkeeps _ _ hrule
    exact hasleep.trans s.wake_asleep

/-! ### A Fatal commits nothing but its record -/

/-- If `t` has FATAL set, it is `s` with a fault raised and nothing else. -/
def State.RaisesOnly (s t : State) : Prop := t.fatal = true → ∃ r, t = s.raise r

/-- If `t` has FATAL set, it is `s` with a fault raised, but for where the agents stand. -/
def State.RaisesOnlyPastAgents (s t : State) : Prop :=
  t.fatal = true → ∃ r prog held rd pd,
    t = { s.raise r with program := prog, held := held, rdata := rd, probeData := pd }

theorem State.raisesOnly_of_clear {s t : State} (h : t.fatal = false) : s.RaisesOnly t :=
  fun hset => by simp [h] at hset

theorem State.raisesOnly_raise (s : State) (r : FatalRec) : s.RaisesOnly (s.raise r) :=
  fun _ => ⟨r, rfl⟩

theorem State.raisesOnlyPastAgents_of_clear {s t : State} (h : t.fatal = false) :
    s.RaisesOnlyPastAgents t :=
  fun hset => by simp [h] at hset

/-- What a read returned is kept with the agents. -/
theorem State.RaisesOnly.pastAgents_of_returned {s t : State} (h : s.RaisesOnly t) (rd pd : Word) :
    s.RaisesOnlyPastAgents { t with rdata := rd, probeData := pd } := by
  intro hset
  obtain ⟨r, rfl⟩ := h hset
  exact ⟨r, _, _, _, _, rfl⟩

theorem State.RaisesOnly.pastAgents {s t : State} (h : s.RaisesOnly t) : s.RaisesOnlyPastAgents t :=
  h.pastAgents_of_returned t.rdata t.probeData

/-- Where the agents stood before the fault does not matter. -/
theorem State.RaisesOnlyPastAgents.of_moved {s t : State} {prog : List Access} {held : Option Word}
    (h : ({ s with program := prog, held := held } : State).RaisesOnlyPastAgents t) :
    s.RaisesOnlyPastAgents t := by
  intro hset
  obtain ⟨r, _, _, _, _, rfl⟩ := h hset
  exact ⟨r, _, _, _, _, rfl⟩

theorem exec_raisesOnly (i : Instr) {s : State} (hfatal : s.fatal = false) :
    ∃ t, exec i s = .next t ∧ s.RaisesOnly t := by
  cases henc : encode i with
  | command w =>
    obtain ⟨a, hexec, hcommit⟩ := exec_of_commandWord henc s
    rw [hexec]
    exact command_elim (State.raisesOnly_of_clear hfatal) (fun r _ => s.raisesOnly_raise r)
      (fun t _ ha => State.raisesOnly_of_clear ((hcommit t ha).trans hfatal))
  | condition w =>
    obtain ⟨rule, hexec, hkeeps⟩ := exec_of_conditionWord henc
    rw [hexec]
    exact deliver_elim (fun _ => State.raisesOnly_of_clear hfatal) (fun r _ _ => s.raisesOnly_raise r)
      (fun t _ hrule => State.raisesOnly_of_clear ((hkeeps _ _ hrule).1.trans hfatal))

/-! ### The same through the host interface and the agents -/

section Agents

variable {s : State} (hfatal : s.fatal = false)
include hfatal

theorem accessFatal_raisesOnly (off width : Nat) : s.RaisesOnly (s.accessFatal off width) := by
  rw [State.accessFatal, if_neg (ne_true_of_eq_false hfatal)]
  exact s.raisesOnly_raise _

theorem cmdWrite_raisesOnly (w : Word) : ∃ t, cmdWrite w s = .next t ∧ s.RaisesOnly t := by
  unfold cmdWrite
  split
  case isTrue => exact ⟨_, rfl, State.raisesOnly_of_clear hfatal⟩
  case isFalse =>
    split
    case h_1 => exact ⟨_, rfl, s.raisesOnly_raise _⟩
    case h_2 i _ => exact exec_raisesOnly i hfatal

theorem condDeliver_raisesOnly (w : BitVec 13) :
    ∃ t, condDeliver w s = .next t ∧ s.RaisesOnly t := by
  cases hdec : decode (.condition w) with
  | error r => exact ⟨_, condDeliver_rejected hfatal hdec, s.raisesOnly_raise _⟩
  | ok i =>
    simp only [condDeliver, hdec]
    exact exec_raisesOnly i hfatal

theorem writeReg_raisesOnly (r : Reg) (v : Word) :
    ∃ t, writeReg r v s = .next t ∧ s.RaisesOnly t := by
  cases r with
  | cmd => exact cmdWrite_raisesOnly hfatal v
  | opnd | tmrCfg | stage | resp | status | finfo | reserved =>
    exact ⟨_, rfl, State.raisesOnly_of_clear hfatal⟩

theorem writeAccess_raisesOnly (addr width : Nat) (v : Word) :
    ∃ t, writeAccess addr width v s = .next t ∧ s.RaisesOnly t := by
  unfold writeAccess
  split
  case h_1 => exact ⟨s, rfl, State.raisesOnly_of_clear hfatal⟩
  case h_2 off _ =>
    split
    case isTrue => exact writeReg_raisesOnly hfatal _ v
    case isFalse => exact ⟨_, rfl, accessFatal_raisesOnly hfatal off width⟩

theorem readAccess_raisesOnly (addr width : Nat) : s.RaisesOnly (readAccess addr width s).2 := by
  unfold readAccess
  split
  case h_1 => exact State.raisesOnly_of_clear hfatal
  case h_2 off _ =>
    split
    case isTrue => exact State.raisesOnly_of_clear hfatal
    case isFalse => exact accessFatal_raisesOnly hfatal off width

theorem access_raisesOnlyPastAgents (a : Access) :
    ∃ t, access a s = .next t ∧ s.RaisesOnlyPastAgents t := by
  cases a with
  | read addr width =>
    exact ⟨_, rfl, (readAccess_raisesOnly hfatal addr width).pastAgents_of_returned _ _⟩
  | write addr width v =>
    obtain ⟨t, hwrite, hraises⟩ := writeAccess_raisesOnly hfatal addr width v
    exact ⟨t, hwrite, hraises.pastAgents⟩

theorem probeTurn_raisesOnlyPastAgents (addr width : Nat) :
    ∃ t, probeTurn addr width s = .next t ∧ s.RaisesOnlyPastAgents t :=
  ⟨_, rfl, (readAccess_raisesOnly hfatal addr width).pastAgents_of_returned _ _⟩

theorem recheck_raisesOnlyPastAgents (w : Word) :
    ∃ t, recheck w s = .next t ∧ s.RaisesOnlyPastAgents t := by
  obtain ⟨t, hwrite, hraises⟩ := cmdWrite_raisesOnly (s := { s with held := none }) hfatal w
  exact ⟨t, hwrite, hraises.pastAgents.of_moved⟩

theorem recheckTurn_raisesOnlyPastAgents :
    ∃ t, recheckTurn s = .next t ∧ s.RaisesOnlyPastAgents t := by
  unfold recheckTurn
  split
  case isTrue => exact ⟨s, rfl, State.raisesOnlyPastAgents_of_clear hfatal⟩
  case isFalse =>
    split
    case h_1 w _ => exact recheck_raisesOnlyPastAgents hfatal w
    case h_2 => exact ⟨s, rfl, State.raisesOnlyPastAgents_of_clear hfatal⟩

/-- The host's own computation is no step of TWCORE and raises nothing. -/
theorem hostTurn_raisesOnlyPastAgents :
    ∃ t, hostTurn s = .next t ∧ s.RaisesOnlyPastAgents t := by
  unfold hostTurn
  split
  case isTrue => exact ⟨s, rfl, State.raisesOnlyPastAgents_of_clear hfatal⟩
  case isFalse =>
    split
    case h_1 w _ => exact recheck_raisesOnlyPastAgents hfatal w
    case h_2 =>
      split
      case h_1 a rest _ =>
        obtain ⟨t, haccess, hraises⟩ :=
          access_raisesOnlyPastAgents (s := { s with program := rest }) hfatal a
        exact ⟨t, haccess, hraises.of_moved⟩
      case h_2 => split <;> exact ⟨_, rfl, State.raisesOnlyPastAgents_of_clear hfatal⟩

theorem takeTurn_raisesOnlyPastAgents (turn : Turn) :
    ∃ t, takeTurn turn s = .next t ∧ s.RaisesOnlyPastAgents t := by
  cases turn with
  | host => exact hostTurn_raisesOnlyPastAgents hfatal
  | recheck => exact recheckTurn_raisesOnlyPastAgents hfatal
  | cond w =>
    obtain ⟨t, hdeliver, hraises⟩ := condDeliver_raisesOnly hfatal w
    exact ⟨t, hdeliver, hraises.pastAgents⟩
  | idle n v => exact ⟨_, rfl, State.raisesOnlyPastAgents_of_clear (by simpa using hfatal)⟩
  | probe addr width => exact probeTurn_raisesOnlyPastAgents hfatal addr width
  | powerOn => exact ⟨_, rfl, State.raisesOnlyPastAgents_of_clear rfl⟩

end Agents

theorem step_of_turns {s : State} {turn : Turn} {rest : List Turn} (h : s.turns = turn :: rest) :
    step s = takeTurn turn { s with turns := rest } := by
  simp only [step, nextStep, h]

/-- Settles O49: an instruction that faults leaves the state with the fault raised, and a turn that
faults does so past the agents' own moves. -/
theorem fatalIsPrecise : Obligations.FatalIsPrecise := by
  unfold Obligations.FatalIsPrecise
  intro s hfatal
  refine ⟨fun i => ?_, fun turn rest hturns => ?_⟩
  · obtain ⟨t, hexec, hraises⟩ := exec_raisesOnly i hfatal
    refine ⟨t, hexec, fun hset => ?_⟩
    obtain ⟨r, rfl⟩ := hraises hset
    rfl
  · obtain ⟨t, hstep, hraises⟩ :=
      takeTurn_raisesOnlyPastAgents (s := { s with turns := rest }) hfatal turn
    refine ⟨t, (step_of_turns hturns).trans hstep, fun hset => ?_⟩
    obtain ⟨r, _, _, _, _, rfl⟩ := hraises hset
    rfl

end Sys2Proof.Machine
end

section
/-! PROOFS. The state power-on reset leaves (70_reset_and_hazards.md R350, R351), for every configuration
and every draw of the unspecified bytes. -/

namespace Sys2Proof.Machine

theorem resetWith_bus (p : Config.Params) (draw : Nat) (n : BusId) :
    (State.resetWith p draw).bus n = BusEngine.reset p := by
  cases n <;> rfl

@[simp] theorem SerEngine.reset_pay_length (p : Config.Params) (draw : Nat) :
    (SerEngine.reset p draw).pay.length = p.serMaxLen := by
  simp [SerEngine.reset]

@[simp] theorem resetWith_stage_length (p : Config.Params) (draw : Nat) :
    (State.resetWith p draw).stage.length = p.serMaxLen := by
  simp [State.resetWith]

/-- Whatever bytes are drawn for SR.pay and STAGE, only their number is stated (R352). -/
theorem resetWith_afterReset (p : Config.Params) (draw : Nat) :
    (State.resetWith p draw).AfterReset :=
  ⟨rfl, rfl, rfl, rfl, rfl, rfl, rfl, rfl, rfl, rfl, resetWith_bus p draw, rfl,
    SerEngine.reset_pay_length p draw, resetWith_stage_length p draw, rfl, rfl, rfl, rfl, rfl, rfl⟩

/-- The reset step keeps only what `AfterReset` does not speak of: the parameters, the agents' lines, the
turns, and what belongs to the host's program. -/
theorem State.powerOn_afterReset (s : State) : s.powerOn.AfterReset :=
  resetWith_afterReset s.cfg (s.draws + 1)

/-- Settles O57: both states are a `State.resetWith` in every field R351 speaks of. -/
theorem resetLeavesTheStatedState : Obligations.ResetLeavesTheStatedState := by
  unfold Obligations.ResetLeavesTheStatedState
  refine ⟨resetWith_afterReset _ _, reset_status, rfl, rfl, fun s rest hturns => ?_⟩
  have hstep : step s = .next { s with turns := rest }.powerOn := step_of_turns hturns
  exact ⟨_, hstep, State.powerOn_afterReset _, rfl⟩

end Sys2Proof.Machine
end

section
/-! PROOFS. The encoder and the decoder agree (30_encoding.md R111 to R128): the fields of each format are
read back, and a word that decodes is put together again from its fields. -/

namespace Sys2Proof.Machine

/-! ### The reserved field of a format -/

/-- A mask of consecutive ones tests the field it covers. -/
theorem and_fieldMask_eq_zero_iff (w : Word) {start len : Nat} (h : start + len ≤ 32) :
    w &&& ((BitVec.allOnes len).setWidth 32 <<< start) = 0#32 ↔ w.extractLsb' start len = 0#len := by
  simp only [BitVec.eq_of_getLsbD_eq_iff, BitVec.getLsbD_and, BitVec.getLsbD_shiftLeft,
    BitVec.getLsbD_setWidth, BitVec.getLsbD_allOnes, BitVec.getLsbD_extractLsb', BitVec.getLsbD_zero]
  constructor
  · intro hand i hi
    simpa [hi, show start + i < 32 by omega, show i < 32 by omega] using hand (start + i) (by omega)
  · intro hfield i hi
    by_cases hin : start ≤ i ∧ i - start < len
    · have := hfield (i - start) hin.2
      rw [show start + (i - start) = i by omega] at this
      simp_all
    · simp; omega

/-- First bit and length of a format's reserved field: the reserved bits of each format lie together
(30_encoding.md R112 to R117). -/
def reservedField (o : Opcode) : Nat × Nat :=
  match o with
  | .evtPost | .evtClear | .serOpen => (5, 22)
  | .evtPending | .emInit | .emFirstBlocked | .emSleep | .serAvail => (0, 27)
  | .emBlock | .emUnblock => (3, 24)
  | .busOpen | .busAvail | .busRdata => (0, 26)
  | .busStart => (5, 2)
  | .serStart => (8, 19)

theorem reservedMask_eq (o : Opcode) :
    reservedMask o = (BitVec.allOnes (reservedField o).2).setWidth 32 <<< (reservedField o).1 := by
  cases o <;> decide

theorem and_reservedMask_eq_zero_iff {o : Opcode} {start len : Nat} (h : reservedField o = (start, len))
    (w : Word) : w &&& reservedMask o = 0#32 ↔ w.extractLsb' start len = 0#len := by
  have hfits : start + len ≤ 32 := by cases o <;> cases h <;> decide
  rw [reservedMask_eq, h]
  exact and_fieldMask_eq_zero_iff w hfits

/-! ### When a command word decodes -/

theorem opcodeOf_eq_some_iff {opc : BitVec 5} {o : Opcode} : opcodeOf opc = some o ↔ opc = o.bits := by
  constructor
  · intro h
    unfold opcodeOf at h
    split at h <;> cases h <;> exact BitVec.eq_of_toNat_eq ‹_›
  · rintro rfl
    cases o <;> rfl

theorem decode_command_ok {w : Word} {o : Opcode} {start len : Nat}
    (hformat : reservedField o = (start, len)) (hopc : w.extractLsb' 27 5 = o.bits)
    (hres : w.extractLsb' start len = 0#len) : decode (.command w) = .ok (decodeFields o w) := by
  simp only [decode, decodeCommand, opcodeOf_eq_some_iff.2 hopc,
    (and_reservedMask_eq_zero_iff hformat w).2 hres, if_true]

/-- A command word has an operation code and no reserved bit set, or is rejected with its code. -/
theorem decode_command_cases (w : Word) :
    (∃ o, w.extractLsb' 27 5 = o.bits ∧ w &&& reservedMask o = 0#32
        ∧ decode (.command w) = .ok (decodeFields o w))
      ∨ decode (.command w) = .error (.reservedOpcode (w.extractLsb' 27 5))
      ∨ decode (.command w) = .error (.reservedBits (w.extractLsb' 27 5)) := by
  cases hopc : opcodeOf (w.extractLsb' 27 5) with
  | none => exact .inr (.inl (by simp only [decode, decodeCommand, hopc]))
  | some o =>
    have hbits := opcodeOf_eq_some_iff.1 hopc
    by_cases hres : w &&& reservedMask o = 0#32
    · exact .inl ⟨o, hbits, hres, by simp only [decode, decodeCommand, hopc, hres, if_true]⟩
    · refine .inr (.inr ?_)
      simp only [decode, decodeCommand, hopc, if_neg hres, ← hbits]

/-! ### A word built in a format decodes to the row's command with its operands (R112 to R117) -/

theorem busOfBit_bit (n : BusId) : busOfBit n.bit = n := by cases n <;> rfl

theorem dirOfBit_bit (d : Dir) : dirOfBit d.bit = d := by cases d <;> rfl

theorem decode_formatN {o : Opcode} (hformat : reservedField o = (0, 27)) :
    decode (formatN o) = .ok (decodeFields o (o.bits ++ 0#27)) :=
  decode_command_ok hformat BitVec.extractLsb'_append_eq_left BitVec.extractLsb'_append_eq_right

theorem decode_formatE {o : Opcode} {idx : BitVec 5} {i : Instr} (hformat : reservedField o = (5, 22))
    (hi : ∀ w, fieldIdx w = idx → decodeFields o w = i) : decode (formatE o idx) = .ok i := by
  rw [formatE, decode_command_ok hformat, hi]
  all_goals
    simp (disch := decide) only [fieldIdx, BitVec.extractLsb'_append_eq_of_add_le,
      BitVec.extractLsb'_append_eq_of_le]
    simp

theorem decode_formatD {o : Opcode} {depth : BitVec 3} {i : Instr} (hformat : reservedField o = (3, 24))
    (hi : ∀ w, fieldDepth w = depth → decodeFields o w = i) : decode (formatD o depth) = .ok i := by
  rw [formatD, decode_command_ok hformat, hi]
  all_goals
    simp (disch := decide) only [fieldDepth, BitVec.extractLsb'_append_eq_of_add_le,
      BitVec.extractLsb'_append_eq_of_le]
    simp

theorem decode_formatC {o : Opcode} {n : BusId} {i : Instr} (hformat : reservedField o = (0, 26))
    (hi : ∀ w, fieldCtl w = n → decodeFields o w = i) : decode (formatC o n) = .ok i := by
  rw [formatC, decode_command_ok hformat, hi]
  all_goals
    simp (disch := decide) only [fieldCtl, BitVec.extractLsb'_append_eq_of_add_le,
      BitVec.extractLsb'_append_eq_of_le]
    simp [busOfBit_bit]

theorem decode_formatB {o : Opcode} {n : BusId} {dir : Dir} {cnt : BitVec 3} {dev : BitVec 7}
    {reg : Byte} {evt : BitVec 5} {i : Instr} (hformat : reservedField o = (5, 2))
    (hi : ∀ w, fieldCtl w = n → fieldDir w = dir → fieldCnt w = cnt → fieldDev w = dev →
      fieldReg w = reg → fieldIdx w = evt → decodeFields o w = i) :
    decode (formatB o n dir cnt dev reg evt) = .ok i := by
  rw [formatB, decode_command_ok hformat, hi]
  all_goals
    simp (disch := decide) only [fieldCtl, fieldDir, fieldCnt, fieldDev, fieldReg, fieldIdx,
      BitVec.extractLsb'_append_eq_of_add_le, BitVec.extractLsb'_append_eq_of_le]
    simp [busOfBit_bit, dirOfBit_bit]

theorem decode_formatL {o : Opcode} {n : Byte} {i : Instr} (hformat : reservedField o = (8, 19))
    (hi : ∀ w, fieldLen w = n → decodeFields o w = i) : decode (formatL o n) = .ok i := by
  rw [formatL, decode_command_ok hformat, hi]
  all_goals
    simp (disch := decide) only [fieldLen, BitVec.extractLsb'_append_eq_of_add_le,
      BitVec.extractLsb'_append_eq_of_le]
    simp

/-- A condition word decodes by its fields (R125). -/
theorem decode_formatCond {src : BitVec 3} {cond : BitVec 2} {data : Byte} {i : Instr}
    (hi : ∀ w, w.extractLsb' 10 3 = src → w.extractLsb' 8 2 = cond → w.extractLsb' 0 8 = data →
      decodeCondition w = .ok i) : decode (formatCond src cond data) = .ok i := by
  obtain ⟨hsrc, hcond, hdata⟩ := condWord_fields src cond data
  exact hi _ hsrc hcond hdata

/-- Settles O2: each format gives back its fields, and its reserved field is 0. -/
theorem decodeInvertsEncode : Obligations.DecodeInvertsEncode := by
  unfold Obligations.DecodeInvertsEncode
  intro i
  cases i
  case evtPending | emInit | emFirstBlocked | emSleep | serAvail => exact decode_formatN rfl
  case evtPost idx | evtClear idx | serOpen idx => exact decode_formatE rfl fun _ h => h ▸ rfl
  case emBlock depth | emUnblock depth => exact decode_formatD rfl fun _ h => h ▸ rfl
  case busOpen n | busAvail n | busRdata n => exact decode_formatC rfl fun _ h => h ▸ rfl
  case busStart n dir cnt dev reg evt =>
    refine decode_formatB rfl fun w hctl hdir hcnt hdev hreg hevt => ?_
    rw [decodeFields, hctl, hdir, hcnt, hdev, hreg, hevt]
  case serStart len => exact decode_formatL rfl fun _ h => h ▸ rfl
  all_goals
    refine decode_formatCond fun w hsrc hcond hdata => ?_
    simp only [decodeCondition, hsrc, hcond, hdata]
    rfl

/-! ### A word is put together again from its fields -/

theorem bit_busOfBit (b : BitVec 1) : (busOfBit b).bit = b := by revert b; decide

theorem bit_dirOfBit (b : BitVec 1) : (dirOfBit b).bit = b := by revert b; decide

theorem formatN_eq {o : Opcode} {w : Word} (hformat : reservedField o = (0, 27))
    (hopc : w.extractLsb' 27 5 = o.bits) (hres : w &&& reservedMask o = 0#32) :
    formatN o = .command w := by
  rw [formatN, ← hopc, ← (and_reservedMask_eq_zero_iff hformat w).1 hres]
  simp only [BitVec.extractLsb'_append_extractLsb'_eq_extractLsb', BitVec.extractLsb'_eq_self]

theorem formatE_eq {o : Opcode} {w : Word} (hformat : reservedField o = (5, 22))
    (hopc : w.extractLsb' 27 5 = o.bits) (hres : w &&& reservedMask o = 0#32) :
    formatE o (fieldIdx w) = .command w := by
  rw [formatE, fieldIdx, ← hopc, ← (and_reservedMask_eq_zero_iff hformat w).1 hres]
  simp only [BitVec.extractLsb'_append_extractLsb'_eq_extractLsb', BitVec.extractLsb'_eq_self]

theorem formatD_eq {o : Opcode} {w : Word} (hformat : reservedField o = (3, 24))
    (hopc : w.extractLsb' 27 5 = o.bits) (hres : w &&& reservedMask o = 0#32) :
    formatD o (fieldDepth w) = .command w := by
  rw [formatD, fieldDepth, ← hopc, ← (and_reservedMask_eq_zero_iff hformat w).1 hres]
  simp only [BitVec.extractLsb'_append_extractLsb'_eq_extractLsb', BitVec.extractLsb'_eq_self]

theorem formatC_eq {o : Opcode} {w : Word} (hformat : reservedField o = (0, 26))
    (hopc : w.extractLsb' 27 5 = o.bits) (hres : w &&& reservedMask o = 0#32) :
    formatC o (fieldCtl w) = .command w := by
  rw [formatC, fieldCtl, bit_busOfBit, ← hopc, ← (and_reservedMask_eq_zero_iff hformat w).1 hres]
  simp only [BitVec.extractLsb'_append_extractLsb'_eq_extractLsb', BitVec.extractLsb'_eq_self]

theorem formatB_eq {o : Opcode} {w : Word} (hformat : reservedField o = (5, 2))
    (hopc : w.extractLsb' 27 5 = o.bits) (hres : w &&& reservedMask o = 0#32) :
    formatB o (fieldCtl w) (fieldDir w) (fieldCnt w) (fieldDev w) (fieldReg w) (fieldIdx w)
      = .command w := by
  rw [formatB, fieldCtl, bit_busOfBit, fieldDir, bit_dirOfBit, ← hopc,
    ← (and_reservedMask_eq_zero_iff hformat w).1 hres]
  simp only [fieldCnt, fieldDev, fieldReg, fieldIdx,
    BitVec.extractLsb'_append_extractLsb'_eq_extractLsb', BitVec.extractLsb'_eq_self]

theorem formatL_eq {o : Opcode} {w : Word} (hformat : reservedField o = (8, 19))
    (hopc : w.extractLsb' 27 5 = o.bits) (hres : w &&& reservedMask o = 0#32) :
    formatL o (fieldLen w) = .command w := by
  rw [formatL, fieldLen, ← hopc, ← (and_reservedMask_eq_zero_iff hformat w).1 hres]
  simp only [BitVec.extractLsb'_append_extractLsb'_eq_extractLsb', BitVec.extractLsb'_eq_self]

/-- The fields of a command word that decodes, encoded again, give the word. -/
theorem encode_decodeFields {o : Opcode} {w : Word} (hopc : w.extractLsb' 27 5 = o.bits)
    (hres : w &&& reservedMask o = 0#32) : encode (decodeFields o w) = .command w := by
  cases o
  case evtPending | emInit | emFirstBlocked | emSleep | serAvail => exact formatN_eq rfl hopc hres
  case evtPost | evtClear | serOpen => exact formatE_eq rfl hopc hres
  case emBlock | emUnblock => exact formatD_eq rfl hopc hres
  case busOpen | busAvail | busRdata => exact formatC_eq rfl hopc hres
  case busStart => exact formatB_eq rfl hopc hres
  case serStart => exact formatL_eq rfl hopc hres

/-- A condition word is its fields, whichever code it holds. -/
theorem formatCond_eq {w : BitVec 13} {src : BitVec 3} {cond : BitVec 2}
    (hsrc : (w.extractLsb' 10 3).toNat = src.toNat) (hcond : (w.extractLsb' 8 2).toNat = cond.toNat) :
    formatCond src cond (w.extractLsb' 0 8) = .condition w := by
  rw [formatCond, ← BitVec.eq_of_toNat_eq hsrc, ← BitVec.eq_of_toNat_eq hcond]
  simp only [BitVec.extractLsb'_append_extractLsb'_eq_extractLsb', BitVec.extractLsb'_eq_self]

/-- Settles O3: a command word is its operation code, zeros and its operands in the row's format; a
condition word is its code and its byte. -/
theorem encodeInvertsDecode : Obligations.EncodeInvertsDecode := by
  unfold Obligations.EncodeInvertsDecode
  intro x i h
  cases x with
  | command w =>
    obtain ⟨o, hopc, hres, hdec⟩ | hdec | hdec := decode_command_cases w
    · obtain rfl := Except.ok.inj (hdec.symm.trans h)
      exact encode_decodeFields hopc hres
    · cases hdec.symm.trans h
    · cases hdec.symm.trans h
  | condition w =>
    simp only [decode, decodeCondition] at h
    split at h <;> cases h <;> exact formatCond_eq ‹_› ‹_›

/-- Settles O5: the decoder rejects the word, since one that decodes is an encoding, and both reasons to
reject name its operation code. -/
theorem wordsOutsideTheTableFault : Obligations.WordsOutsideTheTableFault := by
  unfold Obligations.WordsOutsideTheTableFault
  intro s w hport hnone
  obtain ⟨o, -, -, hdec⟩ | hdec | hdec := decode_command_cases w
  · exact absurd (encodeInvertsDecode _ _ hdec) (hnone _)
  all_goals
    rw [cmdWrite_rejected hport hdec, State.raise, rejectFault, finfo_of_command]
    rfl

/-! ### Words of the spec's own tables -/

/-- Settles O1: nine words of V-ENC-1 and V-ENC-5, each decoded. -/
theorem specWordsDecodeAsWritten : Obligations.SpecWordsDecodeAsWritten := by
  unfold Obligations.SpecWordsDecodeAsWritten
  decide

end Sys2Proof.Machine
end

section
/-! PROOFS. What an instruction can do, said once: how a bus record and the serial record move on, and the
effect of a command or a condition that raises no Fatal.  The invariants of the machine are proved over
these cases. -/

namespace Sys2Proof.Machine

/-! ### How the records of the engines move on -/

/-- One condition in a working engine that goes on working: the record it leaves and what it emits
(42_bus_engine.md R216 to R219, R222). -/
inductive BusEngine.Moves (b : BusEngine) : BusEngine → List BusAction → Prop where
  | register (hst : b.st = .initWrite) :
    b.Moves { b with st := if b.dir = Dir.write then .writeData else .addrForRead } [.tx b.reg]
  | restart (hst : b.st = .addrForRead) : b.Moves { b with st := .initRead } [.rstartR b.dev]
  | lastSent (hst : b.st = .writeData) (hcnt : b.cnt - 1 = 0#3) :
    b.Moves { b with cnt := 0#3, st := .awaitStop } [.tx (wordByte b.word 0#3), .stop]
  | sent (hst : b.st = .writeData) (hcnt : b.cnt - 1 ≠ 0#3) :
    b.Moves { b with cnt := b.cnt - 1 } [.tx (wordByte b.word (b.cnt - 1))]
  | lastReceived (data : Byte) (hst : b.st = .initRead) (hcnt : b.cnt - 1 = 0#3) :
    b.Moves { b with word := placeByte b.word 0#3 data, cnt := 0#3, st := .awaitStop } [.nack, .stop]
  | received (data : Byte) (hst : b.st = .initRead) (hcnt : b.cnt - 1 ≠ 0#3) :
    b.Moves { b with word := placeByte b.word (b.cnt - 1) data, cnt := b.cnt - 1 } [.ack]

/-- One TXBL in a working serial engine (43_serial_engine.md R258): the record it leaves and what it
emits. -/
inductive SerEngine.Moves (r : SerEngine) : SerEngine → List SerAction → Prop where
  | sent (hcur : r.cur.toNat < r.len.toNat) (hlast : r.cur + 1 ≠ r.len) :
    r.Moves { r with cur := r.cur + 1 } [.tx (r.pay.getD r.cur.toNat 0#8)]
  | lastSent (hcur : r.cur.toNat < r.len.toNat) (hlast : r.cur + 1 = r.len) :
    r.Moves { r with cur := r.cur + 1, ienTxbl := false, st := .stop, ienTxc := true }
      [.tx (r.pay.getD r.cur.toNat 0#8), .ienTxbl false, .ienTxc true]
  | nothingLeft (hcur : r.cur = r.len) :
    r.Moves { r with ienTxbl := false, st := .stop, ienTxc := true } [.ienTxbl false, .ienTxc true]
  | past (hcur : r.len.toNat < r.cur.toNat) : r.Moves r []

theorem SerEngine.exists_moves (r : SerEngine) : ∃ r' as, r.Moves r' as := by
  by_cases hcur : r.cur.toNat < r.len.toNat
  · by_cases hlast : r.cur + 1 = r.len
    · exact ⟨_, _, .lastSent hcur hlast⟩
    · exact ⟨_, _, .sent hcur hlast⟩
  · by_cases heq : r.cur = r.len
    · exact ⟨_, _, .nothingLeft heq⟩
    · exact ⟨_, _, .past (by bv_omega)⟩

/-- The two tests of TXBL are one move of the record. -/
theorem endBytes_sendByte_of_moves {s : State} {r : SerEngine} {as : List SerAction}
    (h : s.sr.Moves r as) : endBytes (sendByte s) = { s with sr := r }.emitSer as := by
  cases h with
  | sent hcur hlast => simpa [endBytes, sendByte, hcur, State.emitSer] using hlast
  | lastSent hcur hlast => simpa [endBytes, sendByte, hcur, State.emitSer] using hlast
  | nothingLeft heq => simp [endBytes, sendByte, heq]
  | past hcur =>
    have hne : s.sr.cur ≠ s.sr.len := fun heq => by simp [heq] at hcur
    simp [endBytes, sendByte, Nat.not_lt_of_lt hcur, hne, State.emitSer]

/-! ### The effect of a command that commits -/

/-- What a command that commits leaves, by the command; `answer` stands for every command that writes RESP
alone, and for a refused EM_SLEEP. -/
inductive CommandEffect (s : State) : Instr → State → Prop where
  | answer (i : Instr) (v : Word) : CommandEffect s i (s.respond v)
  | evtPost (idx : BitVec 5) : CommandEffect s (.evtPost idx) ((s.post idx).respond 0#32)
  | evtClear (idx : BitVec 5) : CommandEffect s (.evtClear idx) ((s.clearEvt idx).respond 0#32)
  | emInit : CommandEffect s .emInit ({ s with vote := List.replicate s.cfg.nDepths 0 }.respond 0#32)
  | emBlock (d : BitVec 3) (hd : d.toNat < s.cfg.nDepths) (hroom : s.voteAt d.toNat + 1 < s.cfg.voteBound) :
    CommandEffect s (.emBlock d) ((s.setVote d.toNat (s.voteAt d.toNat + 1)).respond 0#32)
  | emUnblock (d : BitVec 3) (hd : d.toNat < s.cfg.nDepths) (hvote : s.voteAt d.toNat ≠ 0) :
    CommandEffect s (.emUnblock d) ((s.setVote d.toNat (s.voteAt d.toNat - 1)).respond 0#32)
  | emSleep (k : Nat) :
    CommandEffect s .emSleep ({ s.emitPwr (.sleep k) with asleep := true }.respond (BitVec.ofNat 32 k))
  | busOpen (n : BusId) (hclosed : (s.bus n).opened = false) :
    CommandEffect s (.busOpen n) ((({ s with cmdBusy := true }.setBus n
      { s.bus n with recov := true }).emitBus n recoveryStart).respond 0#32)
  | busStart (n : BusId) (dir : Dir) (cnt : BitVec 3) (dev : BitVec 7) (reg : Byte) (evt : BitVec 5)
    (hcnt : 1 ≤ cnt.toNat ∧ cnt.toNat ≤ s.cfg.maxBytes) (hopened : (s.bus n).opened = true)
    (havail : (s.bus n).avail = true) (hroom : s.voteAt s.cfg.busBlockDepth + 1 < s.cfg.voteBound) :
    CommandEffect s (.busStart n dir cnt dev reg evt)
      ((((s.setVote s.cfg.busBlockDepth (s.voteAt s.cfg.busBlockDepth + 1)).setBus n
        (startedEngine s.cfg (s.bus n) s.opnd dir cnt dev reg evt)).emitBus n [.startW dev]).respond 0#32)
  | serOpen (idx : BitVec 5) (hclosed : s.sr.opened = false) :
    CommandEffect s (.serOpen idx) ({ s with
        sr := { s.sr with
          opened := true, avail := true, st := .writeData, evt := idx, len := 0#8, cur := 0#8 } }.respond
      0#32)
  | serStart (len : Byte) (hlen : len.toNat ≤ s.cfg.serMaxLen) (hopened : s.sr.opened = true)
    (havail : s.sr.avail = true) (hroom : s.voteAt s.cfg.serBlockDepth + 1 < s.cfg.voteBound) :
    CommandEffect s (.serStart len) (({ s.setVote s.cfg.serBlockDepth (s.voteAt s.cfg.serBlockDepth + 1) with
      sr := startedSerial s.sr s.stage len }.emitSer [.ienTxbl true]).respond 0#32)

/-- Every command takes the common step with an attempt whose commits are its effects. -/
theorem exec_command_effect {i : Instr} {w : Word} (h : encode i = .command w) (s : State) :
    ∃ a, exec i s = command i s a ∧ ∀ t, a = .commit t → CommandEffect s i t := by
  cases i
  case evtPost idx => exact ⟨_, rfl, fun _ ha => by cases ha; exact .evtPost idx⟩
  case evtClear idx => exact ⟨_, rfl, fun _ ha => by cases ha; exact .evtClear idx⟩
  case evtPending | emFirstBlocked | busAvail | busRdata | serAvail =>
    exact ⟨_, rfl, fun _ ha => by cases ha; exact .answer _ _⟩
  case emInit => exact ⟨_, rfl, fun _ ha => by cases ha; exact .emInit⟩
  case emBlock d =>
    refine ⟨_, rfl, fun t ha => ?_⟩
    obtain ⟨hd, hroom, rfl⟩ := blockAttempt_commit ha
    exact .emBlock d hd hroom
  case emUnblock d =>
    refine ⟨_, rfl, fun t ha => ?_⟩
    obtain ⟨hd, hvote, rfl⟩ := unblockAttempt_commit ha
    exact .emUnblock d hd hvote
  case emSleep =>
    refine ⟨_, rfl, fun t ha => ?_⟩
    obtain ⟨-, rfl⟩ | ⟨k, -, rfl⟩ := sleepAttempt_commit ha
    · exact .answer _ _
    · exact .emSleep k
  case busOpen n =>
    refine ⟨_, rfl, fun t ha => ?_⟩
    obtain ⟨hclosed, rfl⟩ := openAttempt_commit ha
    rw [State.setCmdBusy_emitBus_setBus]
    exact .busOpen n hclosed
  case busStart n dir cnt dev reg evt =>
    refine ⟨_, rfl, fun t ha => ?_⟩
    obtain ⟨hcnt, hopened, havail, -, hroom, rfl⟩ := startAttempt_commit ha
    exact .busStart n dir cnt dev reg evt hcnt hopened havail hroom
  case serOpen idx =>
    refine ⟨_, rfl, fun t ha => ?_⟩
    obtain ⟨hclosed, rfl⟩ := serOpenAttempt_commit ha
    exact .serOpen idx hclosed
  case serStart len =>
    refine ⟨_, rfl, fun t ha => ?_⟩
    obtain ⟨hlen, hopened, havail, hroom, rfl⟩ := serStartAttempt_commit ha
    exact .serStart len hlen hopened havail hroom
  all_goals cases h

/-! ### The effect of a condition that raises no Fatal -/

/-- What a condition leaves of the woken state `s` where its rule raises no Fatal. -/
inductive ConditionEffect (s : State) : State → Prop where
  | nothing : ConditionEffect s s
  | timer (idx : BitVec 5) : ConditionEffect s (s.post idx)
  | recovered (n : BusId) (hrecov : (s.bus n).recov = true) :
    ConditionEffect s (({ s with cmdBusy := false }.setBus n
      { s.bus n with recov := false, opened := true, avail := true, st := .initWrite }).emitBus n
        [.ifc, .abort, .ienRestore])
  | busMoves (n : BusId) (b : BusEngine) (as : List BusAction) (hopened : (s.bus n).opened = true)
    (havail : (s.bus n).avail = false) (hmoves : (s.bus n).Moves b as) :
    ConditionEffect s ((s.setBus n b).emitBus n as)
  | busCompletes (n : BusId) (hopened : (s.bus n).opened = true) (havail : (s.bus n).avail = false)
    (hst : (s.bus n).st = .awaitStop) (hvote : s.voteAt s.cfg.busBlockDepth ≠ 0) :
    ConditionEffect s (((s.setVote s.cfg.busBlockDepth (s.voteAt s.cfg.busBlockDepth - 1)).setBus n
      { s.bus n with avail := true, st := .initWrite }).post (s.bus n).evt)
  | serMoves (r : SerEngine) (as : List SerAction) (hopened : s.sr.opened = true)
    (havail : s.sr.avail = false) (hst : s.sr.st = .writeData) (hmoves : s.sr.Moves r as) :
    ConditionEffect s ({ s with sr := r }.emitSer as)
  | serCompletes (hopened : s.sr.opened = true) (havail : s.sr.avail = false) (hst : s.sr.st = .stop)
    (hvote : s.voteAt s.cfg.serBlockDepth ≠ 0) :
    ConditionEffect s (({ s.setVote s.cfg.serBlockDepth (s.voteAt s.cfg.serBlockDepth - 1) with
      sr := { s.sr with ienTxc := false, st := .writeData, avail := true } }.emitSer
        [.ienTxc false]).post s.sr.evt)

theorem busRule_effect {n : BusId} {c : BusCond} {data : Byte} {s t : State}
    (h : busRule n c data s = .ok t) : ConditionEffect s t := by
  obtain ⟨hrecov, -, rfl⟩ | ⟨-, rfl⟩ | ⟨-, hopened, havail, ⟨-, hr⟩ | ⟨-, hr⟩ | ⟨-, hr⟩⟩ := busRule_ok h
  · rw [recoveryDone_eq]
    exact .recovered n hrecov
  · exact .nothing
  · obtain ⟨hst, rfl⟩ | ⟨hst, rfl⟩ | ⟨hst, hcnt, rfl⟩ | ⟨hst, hcnt, rfl⟩ | ⟨-, rfl⟩ := ackRule_ok hr
    · rw [Except.ok.inj (hr.symm.trans (ackRule_initWrite hst))]
      exact .busMoves n _ _ hopened havail (.register hst)
    · exact .busMoves n _ _ hopened havail (.restart hst)
    · exact .busMoves n _ _ hopened havail (.lastSent hst hcnt)
    · exact .busMoves n _ _ hopened havail (.sent hst hcnt)
    · exact .nothing
  · obtain ⟨hst, ⟨hcnt, rfl⟩ | ⟨hcnt, rfl⟩⟩ := rxdataRule_ok hr
    · exact .busMoves n _ _ hopened havail (.lastReceived data hst hcnt)
    · exact .busMoves n _ _ hopened havail (.received data hst hcnt)
  · obtain ⟨hst, hvote, rfl⟩ := mstopRule_ok hr
    exact .busCompletes n hopened havail hst hvote

theorem serRule_effect {c : SerCond} {s t : State} (h : serRule c s = .ok t) : ConditionEffect s t := by
  obtain ⟨-, rfl⟩ | ⟨hopened, havail, ⟨-, hst, rfl⟩ | ⟨-, hr⟩⟩ := serRule_ok h
  · exact .nothing
  · obtain ⟨r, as, hmoves⟩ := s.sr.exists_moves
    rw [endBytes_sendByte_of_moves hmoves]
    exact .serMoves r as hopened havail hst hmoves
  · obtain ⟨hst, hvote, rfl⟩ := txcRule_ok hr
    exact .serCompletes hopened havail hst hvote

theorem timerRule_effect {c : TmrCond} {s t : State} (h : timerRule c s = .ok t) :
    ConditionEffect s t := by
  obtain rfl := Except.ok.inj ((timerRule_ok c s).symm.trans h)
  split
  · exact .timer _
  · exact .nothing

/-- Every condition takes the common step with a rule whose results are its effects. -/
theorem exec_condition_effect {i : Instr} {w : BitVec 13} (h : encode i = .condition w) :
    ∃ rule, (∀ s, exec i s = deliver s rule) ∧ ∀ s t, rule s = .ok t → ConditionEffect s t := by
  cases i
  case bus0Ack | bus0Rxdata | bus0Mstop | bus1Ack | bus1Rxdata | bus1Mstop =>
    exact ⟨_, fun _ => rfl, fun _ _ => busRule_effect⟩
  case serTxbl | serTxc => exact ⟨_, fun _ => rfl, fun _ _ => serRule_effect⟩
  case tmrComp0 | tmrComp1 | tmrUf => exact ⟨_, fun _ => rfl, fun _ _ => timerRule_effect⟩
  all_goals cases h

/-! ### What an instruction comes to -/

/-- A condition is lost, raises Fatal, or has its effect on the woken state. -/
theorem exec_condition_elim {i : Instr} {w : BitVec 13} {s : State} {P : State → Prop}
    (h : encode i = .condition w) (lost : s.fatal = true → P s)
    (raised : ∀ r, s.fatal = false → P (s.raise r))
    (done : ∀ t, s.fatal = false → ConditionEffect s.wake t → P t) : ∃ t, exec i s = .next t ∧ P t := by
  obtain ⟨rule, hexec, heffect⟩ := exec_condition_effect h
  rw [hexec]
  exact deliver_elim lost (fun r hf _ => raised r hf) (fun t hf hr => done t hf (heffect _ _ hr))

/-- An instruction holds, raises Fatal, is lost, or has its effect. -/
theorem exec_elim {i : Instr} {s : State} {P : State → Prop}
    (held : ∀ w, P (s.holdWrite (some w))) (lost : s.fatal = true → P s)
    (raised : ∀ r, s.fatal = false → P (s.raise r))
    (commanded : ∀ t, s.PortOpen → CommandEffect s i t → P t)
    (delivered : ∀ t, s.fatal = false → ConditionEffect s.wake t → P t) :
    ∃ t, exec i s = .next t ∧ P t := by
  cases henc : encode i with
  | command w =>
    obtain ⟨a, hexec, heffect⟩ := exec_command_effect henc s
    rw [hexec]
    refine command_elim ?_ raised (fun t hport ha => commanded t hport (heffect t ha))
    rw [henc]
    exact held w
  | condition w => exact exec_condition_elim henc lost raised delivered

end Sys2Proof.Machine
end

section
/-! PROOFS. What single instructions leave alone: pending events (40_scheduler.md R152, R154), the host's
registers (44_host_interface.md R285), an engine's being open and its stored parameters (10_state.md R42,
R45, R46). -/

namespace Sys2Proof.Machine

/-! ### Pending events -/

/-- Every event pending in `s` is pending in `t`. -/
def State.KeepsEvents (s t : State) : Prop := ∀ j, s.evt.getLsbD j = true → t.evt.getLsbD j = true

theorem State.keepsEvents_of_eq {s t : State} (h : t.evt = s.evt) : s.KeepsEvents t :=
  fun _ hj => by rw [h, hj]

theorem State.keepsEvents_of_post {s t : State} {i : BitVec 5} (h : t.evt = (s.post i).evt) :
    s.KeepsEvents t :=
  fun j hj => by rw [h, post_getLsbD, hj, Bool.true_or]

theorem CommandEffect.keepsEvents {i : Instr} {s t : State} (h : CommandEffect s i t)
    (hi : ∀ idx, i ≠ .evtClear idx) : s.KeepsEvents t := by
  cases h with
  | evtPost idx => exact State.keepsEvents_of_post rfl
  | evtClear idx => exact absurd rfl (hi idx)
  | answer | emInit | emBlock | emUnblock | emSleep | busOpen | busStart | serOpen | serStart =>
    exact State.keepsEvents_of_eq (by simp)

theorem ConditionEffect.keepsEvents {s t : State} (h : ConditionEffect s t) : s.KeepsEvents t := by
  cases h with
  | timer idx => exact State.keepsEvents_of_post rfl
  | busCompletes n => exact State.keepsEvents_of_post (i := (s.bus n).evt) (by simp)
  | serCompletes => exact State.keepsEvents_of_post (i := s.sr.evt) rfl
  | nothing | recovered | busMoves | serMoves => exact State.keepsEvents_of_eq (by simp)

/-- Settles O14: EVT_CLEAR is the only effect that takes a bit out of EVT. -/
theorem onlyEvtClearClearsAnEvent : Obligations.OnlyEvtClearClearsAnEvent := by
  unfold Obligations.OnlyEvtClearClearsAnEvent
  intro i s hi
  exact exec_elim (P := s.KeepsEvents) (fun _ _ h => h) (fun _ _ h => h) (fun _ _ _ h => h)
    (fun _ _ heffect => heffect.keepsEvents hi) (fun _ _ heffect => heffect.keepsEvents)

/-! ### The host's registers -/

/-- RESP, OPND, TMRCFG, STAGE, the PWR trace and what the host has to do are the same. -/
def State.SameHostSide (s t : State) : Prop :=
  t.resp = s.resp ∧ t.held = s.held ∧ t.program = s.program
    ∧ t.opnd = s.opnd ∧ t.tmrCfg = s.tmrCfg ∧ t.stage = s.stage ∧ t.pwr = s.pwr

theorem ConditionEffect.sameHostSide {s t : State} (h : ConditionEffect s t) : s.SameHostSide t := by
  cases h with
  | nothing | timer | recovered | busMoves | busCompletes | serMoves | serCompletes =>
    simp [State.SameHostSide, State.emitSer]

/-- Settles O52: no effect of a condition writes one of them, nor does a Fatal. -/
theorem conditionsLeaveTheHostsRegisters : Obligations.ConditionsLeaveTheHostsRegisters := by
  unfold Obligations.ConditionsLeaveTheHostsRegisters
  intro i w s henc
  exact exec_condition_elim (P := s.SameHostSide) henc (fun _ => ⟨rfl, rfl, rfl, rfl, rfl, rfl, rfl⟩)
    (fun _ _ => ⟨rfl, rfl, rfl, rfl, rfl, rfl, rfl⟩) (fun _ _ heffect => heffect.sameHostSide)

/-! ### One engine's record under an effect -/

@[simp] theorem State.bus_cmdBusy (s : State) (v : Bool) (m : BusId) :
    ({ s with cmdBusy := v } : State).bus m = s.bus m := by
  cases m <;> rfl

theorem State.bus_congr {s t : State} (h0 : t.bus0 = s.bus0) (h1 : t.bus1 = s.bus1) (m : BusId) :
    t.bus m = s.bus m := by
  cases m
  · exact h0
  · exact h1

/-- A command leaves the record of engine `m` alone, begins its recovery, or starts a transaction. -/
theorem CommandEffect.bus_cases {i : Instr} {s t : State} (h : CommandEffect s i t) (m : BusId) :
    t.bus m = s.bus m
    ∨ ((s.bus m).opened = false ∧ t.bus m = { s.bus m with recov := true })
    ∨ ∃ dir cnt dev reg evt, i = .busStart m dir cnt dev reg evt
      ∧ (1 ≤ cnt.toNat ∧ cnt.toNat ≤ s.cfg.maxBytes) ∧ (s.bus m).opened = true ∧ (s.bus m).avail = true
      ∧ t.bus m = startedEngine s.cfg (s.bus m) s.opnd dir cnt dev reg evt := by
  cases h with
  | busOpen n hclosed =>
    by_cases hm : m = n
    · subst hm
      exact .inr (.inl ⟨hclosed, by simp⟩)
    · exact .inl (by simp [State.setBus_bus_other _ n m _ hm])
  | busStart n dir cnt dev reg evt hcnt hopened havail =>
    by_cases hm : m = n
    · subst hm
      exact .inr (.inr ⟨dir, cnt, dev, reg, evt, rfl, hcnt, hopened, havail, by simp⟩)
    · exact .inl (by simp [State.setBus_bus_other _ n m _ hm])
  | answer | evtPost | evtClear | emInit | emBlock | emUnblock | emSleep | serOpen | serStart =>
    exact .inl (State.bus_congr rfl rfl m)

/-- A condition leaves the record of engine `m` alone, ends its recovery, moves its transaction on, or
completes it. -/
theorem ConditionEffect.bus_cases {s t : State} (h : ConditionEffect s t) (m : BusId) :
    t.bus m = s.bus m
    ∨ ((s.bus m).recov = true
      ∧ t.bus m = { s.bus m with recov := false, opened := true, avail := true, st := .initWrite })
    ∨ ((s.bus m).opened = true ∧ (s.bus m).avail = false
      ∧ ((∃ as, (s.bus m).Moves (t.bus m) as)
        ∨ ((s.bus m).st = .awaitStop ∧ t.bus m = { s.bus m with avail := true, st := .initWrite }))) := by
  cases h with
  | recovered n hrecov =>
    by_cases hm : m = n
    · subst hm
      exact .inr (.inl ⟨hrecov, by simp⟩)
    · exact .inl (by simp [State.setBus_bus_other _ n m _ hm])
  | busMoves n b as hopened havail hmoves =>
    by_cases hm : m = n
    · subst hm
      exact .inr (.inr ⟨hopened, havail, .inl ⟨as, by simpa using hmoves⟩⟩)
    · exact .inl (by simp [State.setBus_bus_other _ n m _ hm])
  | busCompletes n hopened havail hst =>
    by_cases hm : m = n
    · subst hm
      exact .inr (.inr ⟨hopened, havail, .inr ⟨hst, by simp⟩⟩)
    · exact .inl (by simp [State.setBus_bus_other _ n m _ hm])
  | nothing | timer | serMoves | serCompletes => exact .inl (State.bus_congr rfl rfl m)

/-! ### Open engines and stored parameters -/

/-- What BUS_START stores of a transaction (10_state.md R45) is the same. -/
def BusEngine.SameParameters (b b' : BusEngine) : Prop :=
  b'.dev = b.dev ∧ b'.reg = b.reg ∧ b'.dir = b.dir ∧ b'.evt = b.evt

theorem BusEngine.sameParameters_refl (b : BusEngine) : b.SameParameters b := ⟨rfl, rfl, rfl, rfl⟩

/-- A move changes neither the flags nor the stored parameters. -/
theorem BusEngine.Moves.keeps_flags_params {b b' : BusEngine} {as : List BusAction}
    (h : b.Moves b' as) :
    b'.opened = b.opened ∧ b'.recov = b.recov ∧ b'.avail = b.avail ∧ b.SameParameters b' := by
  cases h <;> exact ⟨rfl, rfl, rfl, rfl, rfl, rfl, rfl⟩

/-- A move of the serial engine changes neither its flags nor its payload. -/
theorem SerEngine.Moves.keeps_flags_pay {r r' : SerEngine} {as : List SerAction} (h : r.Moves r' as) :
    r'.opened = r.opened ∧ r'.avail = r.avail ∧ r'.pay = r.pay ∧ r'.len = r.len ∧ r'.evt = r.evt := by
  cases h <;> exact ⟨rfl, rfl, rfl, rfl, rfl⟩

theorem CommandEffect.bus_opened {i : Instr} {s t : State} (h : CommandEffect s i t) (m : BusId) :
    (t.bus m).opened = (s.bus m).opened := by
  obtain heq | ⟨-, heq⟩ | ⟨_, _, _, _, _, -, -, -, -, heq⟩ := h.bus_cases m <;> rw [heq]
  rfl

theorem CommandEffect.sr_opened {i : Instr} {s t : State} (h : CommandEffect s i t)
    (hopened : s.sr.opened = true) : t.sr.opened = true := by
  cases h <;> simp [startedSerial, State.emitSer, hopened]

theorem CommandEffect.sameParameters {i : Instr} {s t : State} (h : CommandEffect s i t)
    (hi : ∀ n dir cnt dev reg evt, i ≠ .busStart n dir cnt dev reg evt) (m : BusId) :
    (s.bus m).SameParameters (t.bus m) := by
  obtain heq | ⟨-, heq⟩ | ⟨_, _, _, _, _, hstart, -⟩ := h.bus_cases m
  · exact heq ▸ BusEngine.sameParameters_refl _
  · rw [heq]
    exact BusEngine.sameParameters_refl _
  · exact absurd hstart (hi _ _ _ _ _ _)

theorem ConditionEffect.bus_opened {s t : State} (h : ConditionEffect s t) {m : BusId}
    (hopened : (s.bus m).opened = true) : (t.bus m).opened = true := by
  obtain heq | ⟨-, heq⟩ | ⟨-, -, ⟨as, hmoves⟩ | ⟨-, heq⟩⟩ := h.bus_cases m
  · rw [heq, hopened]
  · rw [heq]
  · rw [hmoves.keeps_flags_params.1, hopened]
  · rw [heq, hopened]

theorem ConditionEffect.sr_opened_eq {s t : State} (h : ConditionEffect s t) :
    t.sr.opened = s.sr.opened := by
  cases h with
  | serMoves r as _ _ _ hmoves => exact hmoves.keeps_flags_pay.1
  | serCompletes => rfl
  | nothing | timer | recovered | busMoves | busCompletes => simp

theorem ConditionEffect.sameParameters {s t : State} (h : ConditionEffect s t) (m : BusId) :
    (s.bus m).SameParameters (t.bus m) := by
  obtain heq | ⟨-, heq⟩ | ⟨-, -, ⟨as, hmoves⟩ | ⟨-, heq⟩⟩ := h.bus_cases m
  · exact heq ▸ BusEngine.sameParameters_refl _
  · rw [heq]
    exact BusEngine.sameParameters_refl _
  · obtain ⟨-, -, -, hparams⟩ := hmoves.keeps_flags_params
    exact hparams
  · rw [heq]
    exact BusEngine.sameParameters_refl _

/-- Settles O53: no effect closes an engine, and BUS_START's alone writes the stored parameters. -/
theorem enginesStayOpen : Obligations.EnginesStayOpen := by
  unfold Obligations.EnginesStayOpen
  intro i s
  refine exec_elim (fun w => ?held) (fun _ => ?lost) (fun r _ => ?raised) (fun t _ heffect => ?command)
    (fun t _ heffect => ?condition)
  case held => simp
  case lost => exact ⟨fun _ => id, id, fun _ n => (s.bus n).sameParameters_refl⟩
  case raised => simp
  case command =>
    exact ⟨fun n hn => (heffect.bus_opened n).trans hn, heffect.sr_opened, heffect.sameParameters⟩
  case condition =>
    simp only [← s.wake_bus]
    exact ⟨fun n => heffect.bus_opened, fun hopened => heffect.sr_opened_eq.trans hopened,
      fun _ => heffect.sameParameters⟩

end Sys2Proof.Machine
end

section
/-! PROOFS. A property that every instruction, fault and move of an agent keeps is kept by every turn
(00_scope.md R5, 20_memory.md R92); with it the halted state (60_exceptions.md R316, R317) and the output
traces (00_scope.md R11). -/

namespace Sys2Proof.Machine

/-! ### Properties that every turn but power-on reset keeps -/

/-- `P` is kept by every instruction, every fault a turn raises outside one, every register write and every
move of an agent. -/
structure KeptByAgents (P : State → Prop) : Prop where
  exec : ∀ i s, P s → ∃ t, exec i s = .next t ∧ P t
  raise : ∀ r s, s.fatal = false → P s → P (s.raise r)
  writeOpnd : ∀ v s, P s → P { s with opnd := v }
  writeTmrCfg : ∀ v s, P s → P { s with tmrCfg := v &&& tmrCfgMask }
  writeStage : ∀ k v s, P s → P { s with stage := storeStageWord s.stage k v }
  moveHost : ∀ program loop held rdata s, P s → P { s with
    program := program, loop := loop, held := held, rdata := rdata }
  moveOthers : ∀ probeData draws s, P s → P { s with probeData := probeData, draws := draws }
  driveIdle : ∀ n v s, P s → P (s.driveIdle n v)

namespace KeptByAgents

variable {P : State → Prop} (hP : KeptByAgents P) {s : State} (hs : P s)
include hP hs

theorem cmdWrite (w : Word) : ∃ t, cmdWrite w s = .next t ∧ P t := by
  unfold Machine.cmdWrite
  split
  case isTrue => exact ⟨_, rfl, hP.moveHost _ _ (some w) _ s hs⟩
  case isFalse hopen =>
    split
    case h_1 => exact ⟨_, rfl, hP.raise _ s (by simp_all [State.portHolds]) hs⟩
    case h_2 i _ => exact hP.exec i s hs

theorem condDeliver (w : BitVec 13) : ∃ t, condDeliver w s = .next t ∧ P t := by
  unfold Machine.condDeliver
  split
  case h_1 i _ => exact hP.exec i s hs
  case h_2 =>
    split
    case isTrue => exact ⟨s, rfl, hs⟩
    case isFalse hfatal => exact ⟨_, rfl, hP.raise _ s (by simpa using hfatal) hs⟩

theorem writeReg (r : Reg) (v : Word) : ∃ t, writeReg r v s = .next t ∧ P t := by
  cases r with
  | cmd => exact hP.cmdWrite hs v
  | opnd => exact ⟨_, rfl, hP.writeOpnd v s hs⟩
  | tmrCfg => exact ⟨_, rfl, hP.writeTmrCfg v s hs⟩
  | stage k => exact ⟨_, rfl, hP.writeStage k v s hs⟩
  | resp | status | finfo | reserved => exact ⟨s, rfl, hs⟩

theorem accessFatal (off width : Nat) : P (s.accessFatal off width) := by
  unfold State.accessFatal
  split
  case isTrue => exact hs
  case isFalse hfatal => exact hP.raise _ s (by simpa using hfatal) hs

theorem readAccess (addr width : Nat) : P (readAccess addr width s).2 := by
  unfold Machine.readAccess
  split
  case h_1 => exact hP.moveOthers _ _ s hs
  case h_2 =>
    split
    case isTrue => exact hs
    case isFalse => exact hP.accessFatal hs _ _

theorem writeAccess (addr width : Nat) (v : Word) : ∃ t, writeAccess addr width v s = .next t ∧ P t := by
  unfold Machine.writeAccess
  split
  case h_1 => exact ⟨s, rfl, hs⟩
  case h_2 =>
    split
    case isTrue => exact hP.writeReg hs _ v
    case isFalse => exact ⟨_, rfl, hP.accessFatal hs _ _⟩

theorem access (a : Access) : ∃ t, access a s = .next t ∧ P t := by
  cases a with
  | read addr width => exact ⟨_, rfl, hP.moveHost _ _ _ _ _ (hP.readAccess hs addr width)⟩
  | write addr width v => exact hP.writeAccess hs addr width v

theorem recheckTurn : ∃ t, recheckTurn s = .next t ∧ P t := by
  unfold Machine.recheckTurn
  split
  case isTrue => exact ⟨s, rfl, hs⟩
  case isFalse =>
    split
    case h_1 w _ => exact hP.cmdWrite (hP.moveHost _ _ none _ s hs) w
    case h_2 => exact ⟨s, rfl, hs⟩

theorem hostTurn : ∃ t, hostTurn s = .next t ∧ P t := by
  unfold Machine.hostTurn
  split
  case isTrue => exact ⟨s, rfl, hs⟩
  case isFalse =>
    split
    case h_1 w _ => exact hP.cmdWrite (hP.moveHost _ _ none _ s hs) w
    case h_2 =>
      split
      case h_1 a rest _ => exact hP.access (hP.moveHost rest _ _ _ s hs) a
      case h_2 =>
        split
        case h_1 => exact ⟨s, rfl, hs⟩
        case h_2 l _ => exact ⟨_, rfl, hP.moveHost _ (some _) _ _ s hs⟩

theorem takeTurn {turn : Turn} (hturn : turn ≠ .powerOn) : ∃ t, takeTurn turn s = .next t ∧ P t := by
  cases turn with
  | host => exact hP.hostTurn hs
  | recheck => exact hP.recheckTurn hs
  | cond w => exact hP.condDeliver hs w
  | idle n v => exact ⟨_, rfl, hP.driveIdle n v s hs⟩
  | probe addr width => exact ⟨_, rfl, hP.moveOthers _ _ _ (hP.readAccess hs addr width)⟩
  | powerOn => exact absurd rfl hturn

end KeptByAgents

theorem step_of_no_turns {s : State} (h : s.turns = []) : step s = .next s := by
  simp only [step, nextStep, h]

/-! ### The halted state -/

/-- All but the host's own position, OPND, TMRCFG, STAGE, what a read returned and the ENV lines is the
same (60_exceptions.md R316, R317). -/
def State.Halted (s t : State) : Prop :=
  t = { s with
    opnd := t.opnd, tmrCfg := t.tmrCfg, stage := t.stage, held := t.held,
    program := t.program, loop := t.loop, rdata := t.rdata, probeData := t.probeData,
    busIdle0 := t.busIdle0, busIdle1 := t.busIdle1, draws := t.draws }

theorem State.halted_refl (s : State) : s.Halted s := rfl

theorem State.Halted.fatal {s t : State} (hfatal : s.fatal = true) (h : s.Halted t) : t.fatal = true := by
  rw [h]
  exact hfatal

/-- Under FATAL an instruction holds or is lost. -/
theorem exec_under_fatal (i : Instr) {s : State} (hfatal : s.fatal = true) :
    exec i s = .next s ∨ ∃ w, exec i s = .next (s.holdWrite w) := by
  cases henc : encode i with
  | command w =>
    obtain ⟨a, hexec, -⟩ := exec_command_effect henc s
    exact .inr ⟨_, hexec.trans (command_held (.inl hfatal) i a)⟩
  | condition w =>
    obtain ⟨rule, hexec, -⟩ := exec_condition_effect henc
    exact .inl ((hexec s).trans (deliver_lost hfatal rule))

theorem halted_keptByAgents {s : State} (hfatal : s.fatal = true) : KeptByAgents s.Halted where
  exec i t ht := by
    obtain hexec | ⟨w, hexec⟩ := exec_under_fatal i (ht.fatal hfatal)
    · exact ⟨t, hexec, ht⟩
    · refine ⟨_, hexec, ?_⟩
      rw [ht]
      rfl
  raise r t hclear ht := by simp [ht.fatal hfatal] at hclear
  writeOpnd v t ht := by rw [ht]; rfl
  writeTmrCfg v t ht := by rw [ht]; rfl
  writeStage k v t ht := by rw [ht]; rfl
  moveHost _ _ _ _ t ht := by rw [ht]; rfl
  moveOthers _ _ t ht := by rw [ht]; rfl
  driveIdle n v t ht := by rw [ht]; cases n <;> rfl

/-- Settles O50: every agent keeps the halted state. -/
theorem fatalIsSticky : Obligations.FatalIsSticky := by
  unfold Obligations.FatalIsSticky
  intro s turn rest hfatal hturns hturn
  rw [step_of_turns hturns]
  exact (halted_keptByAgents (s := { s with turns := rest }) hfatal).takeTurn (State.halted_refl _) hturn

/-! ### The output traces -/

/-- Each trace of `s` is the beginning of that of `t`. -/
def State.TracesExtend (s t : State) : Prop :=
  s.busphy0 <+: t.busphy0 ∧ s.busphy1 <+: t.busphy1 ∧ s.serphy <+: t.serphy ∧ s.pwr <+: t.pwr

theorem State.TracesExtend.trans {s t u : State} (h : s.TracesExtend t) (h' : t.TracesExtend u) :
    s.TracesExtend u := by
  obtain ⟨h0, h1, hser, hpwr⟩ := h
  obtain ⟨h0', h1', hser', hpwr'⟩ := h'
  exact ⟨h0.trans h0', h1.trans h1', hser.trans hser', hpwr.trans hpwr'⟩

theorem State.tracesExtend_refl (s : State) : s.TracesExtend s :=
  ⟨List.prefix_rfl, List.prefix_rfl, List.prefix_rfl, List.prefix_rfl⟩

theorem State.tracesExtend_setBus {s t : State} (n : BusId) (b : BusEngine) (h : s.TracesExtend t) :
    s.TracesExtend (t.setBus n b) := by
  cases n <;> exact h

theorem State.tracesExtend_emitBus {s t : State} (n : BusId) (as : List BusAction)
    (h : s.TracesExtend t) : s.TracesExtend (t.emitBus n as) := by
  refine h.trans ?_
  cases n
  · exact ⟨List.prefix_append _ _, List.prefix_rfl, List.prefix_rfl, List.prefix_rfl⟩
  · exact ⟨List.prefix_rfl, List.prefix_append _ _, List.prefix_rfl, List.prefix_rfl⟩

theorem State.tracesExtend_emitSer {s t : State} (as : List SerAction) (h : s.TracesExtend t) :
    s.TracesExtend (t.emitSer as) :=
  h.trans ⟨List.prefix_rfl, List.prefix_rfl, List.prefix_append _ _, List.prefix_rfl⟩

theorem State.tracesExtend_emitPwr {s t : State} (a : PwrAction) (h : s.TracesExtend t) :
    s.TracesExtend (t.emitPwr a) :=
  h.trans ⟨List.prefix_rfl, List.prefix_rfl, List.prefix_rfl, List.prefix_append _ _⟩

theorem CommandEffect.tracesExtend {i : Instr} {s t : State} (h : CommandEffect s i t) :
    s.TracesExtend t := by
  have hrefl := s.tracesExtend_refl
  cases h with
  | emSleep k => exact State.tracesExtend_emitPwr (.sleep k) hrefl
  | busOpen n | busStart n =>
    exact State.tracesExtend_emitBus n _ (State.tracesExtend_setBus n _ hrefl)
  | serStart => exact State.tracesExtend_emitSer [.ienTxbl true] hrefl
  | answer | evtPost | evtClear | emInit | emBlock | emUnblock | serOpen => exact hrefl

theorem ConditionEffect.tracesExtend {s t : State} (h : ConditionEffect s t) : s.TracesExtend t := by
  have hrefl := s.tracesExtend_refl
  cases h with
  | recovered n | busMoves n =>
    exact State.tracesExtend_emitBus n _ (State.tracesExtend_setBus n _ hrefl)
  | busCompletes n => exact State.tracesExtend_setBus n _ hrefl
  | serMoves r as => exact State.tracesExtend_emitSer as hrefl
  | serCompletes => exact State.tracesExtend_emitSer [.ienTxc false] hrefl
  | nothing | timer => exact hrefl

theorem tracesExtend_keptByAgents (s : State) : KeptByAgents s.TracesExtend where
  exec i t ht := exec_elim (fun _ => ht) (fun _ => ht) (fun _ _ => ht)
    (fun _ _ heffect => ht.trans heffect.tracesExtend) (fun _ _ heffect => ht.trans heffect.tracesExtend)
  raise _ _ _ ht := ht
  writeOpnd _ _ ht := ht
  writeTmrCfg _ _ ht := ht
  writeStage _ _ _ ht := ht
  moveHost _ _ _ _ _ ht := ht
  moveOthers _ _ _ ht := ht
  driveIdle n _ _ ht := by cases n <;> exact ht

/-- Settles O54: every agent only adds to the traces. -/
theorem tracesOnlyGrow : Obligations.TracesOnlyGrow := by
  unfold Obligations.TracesOnlyGrow
  intro s hturn
  have hrefl := s.tracesExtend_refl
  cases hturns : s.turns with
  | nil => exact ⟨s, step_of_no_turns hturns, hrefl⟩
  | cons turn rest =>
    rw [step_of_turns hturns]
    exact (tracesExtend_keptByAgents s).takeTurn (s := { s with turns := rest }) hrefl
      fun h => hturn rest (h ▸ hturns)

end Sys2Proof.Machine
end

section
/-! PROOFS. The invariant of the machine (10_state.md R32 to R50): each effect keeps each part of it, so every
instruction, every agent and every step does. -/

namespace Sys2Proof.Machine

/-! ### What the parameters guarantee (00_scope.md R6, R7) -/

theorem Config.Params.bounds_of_ok {p : Config.Params} (h : p.ok = true) :
    (4 ≤ p.nDepths ∧ p.nDepths - 2 ≤ p.deepestSleep ∧ p.deepestSleep < p.nDepths)
      ∧ (2 ≤ p.voteBound ∧ p.voteBound < 2 ^ p.voteW)
      ∧ (2 ≤ p.busBlockDepth ∧ p.busBlockDepth < p.nDepths)
      ∧ (2 ≤ p.serBlockDepth ∧ p.serBlockDepth < p.nDepths)
      ∧ (p.maxBytes ≤ 7 ∧ p.maxBytes = p.wordLen) := by
  simp only [Config.Params.ok, Bool.and_eq_true, decide_eq_true_eq] at h
  omega

/-! ### The invariant, engine by engine -/

/-- The clauses of the invariant on one bus record. -/
def BusEngine.WellFormed (p : Config.Params) (b : BusEngine) : Prop :=
  b.Coherent p ∧ b.Unfilled ∧ b.word.length = p.wordLen

/-- The clauses of the invariant on the vote table. -/
def State.VotesWellFormed (s : State) : Prop :=
  s.vote.length = s.cfg.nDepths ∧ (∀ v ∈ s.vote, v < 2 ^ s.cfg.voteW) ∧ s.VotesBounded

/-- The clauses of the invariant on the serial record. -/
def State.SerWellFormed (s : State) : Prop := s.sr.pay.length = s.cfg.serMaxLen ∧ s.SerCoherent

/-- The clauses of the invariant on the fault record, TMRCFG and STAGE. -/
def State.RegistersWellFormed (s : State) : Prop :=
  s.RecordClear ∧ s.TmrReservedZero ∧ s.stage.length = s.cfg.serMaxLen

theorem State.inv_iff (s : State) :
    s.Inv ↔ s.cfg.ok = true ∧ s.RegistersWellFormed ∧ s.VotesWellFormed
      ∧ (∀ n, (s.bus n).WellFormed s.cfg) ∧ s.SerWellFormed ∧ s.RecoveryCoherent := by
  constructor
  · rintro ⟨hcfg, ⟨hlen, hwidth, hstage, hpay, hword0, hword1⟩, hbound, hrecord, htmr, hcoh0, hcoh1,
      hunf0, hunf1, hser, hrec⟩
    refine ⟨hcfg, ⟨hrecord, htmr, hstage⟩, ⟨hlen, hwidth, hbound⟩, fun n => ?_, ⟨hpay, hser⟩, hrec⟩
    cases n
    · exact ⟨hcoh0, hunf0, hword0⟩
    · exact ⟨hcoh1, hunf1, hword1⟩
  · rintro ⟨hcfg, ⟨hrecord, htmr, hstage⟩, ⟨hlen, hwidth, hbound⟩, hbus, ⟨hpay, hser⟩, hrec⟩
    obtain ⟨hcoh0, hunf0, hword0⟩ := hbus .bus0
    obtain ⟨hcoh1, hunf1, hword1⟩ := hbus .bus1
    exact ⟨hcfg, ⟨hlen, hwidth, hstage, hpay, hword0, hword1⟩, hbound, hrecord, htmr, hcoh0, hcoh1,
      hunf0, hunf1, hser, hrec⟩

/-! ### The bus records -/

section Bus

variable {p : Config.Params} {b : BusEngine} (hb : b.WellFormed p)
include hb

theorem BusEngine.WellFormed.recovering (hclosed : b.opened = false) :
    ({ b with recov := true } : BusEngine).WellFormed p := by
  obtain ⟨⟨-, havail, hidle, hcount, hmax, hwrite, hread⟩, hunf, hword⟩ := hb
  exact ⟨⟨fun hopened => by simp [hclosed] at hopened, havail, hidle, hcount, hmax, hwrite, hread⟩,
    hunf, hword⟩

theorem BusEngine.WellFormed.recovered (hrecov : b.recov = true) :
    ({ b with recov := false, opened := true, avail := true, st := .initWrite } : BusEngine).WellFormed p := by
  obtain ⟨⟨hopen, -, hidle, -, hmax, -, -⟩, -, hword⟩ := hb
  have hclosed : b.opened = false := by
    by_contra hopened
    simp [hopen (by simpa using hopened)] at hrecov
  obtain ⟨-, hcnt⟩ := hidle (by simp [BusEngine.busy, hclosed])
  simp [BusEngine.WellFormed, BusEngine.Coherent, BusEngine.Unfilled, BusEngine.busy, hcnt, hword]

theorem BusEngine.WellFormed.started {opnd : Word} {dir : Dir} {cnt : BitVec 3} {dev : BitVec 7}
    {reg : Byte} {evt : BitVec 5} (hcnt : 1 ≤ cnt.toNat ∧ cnt.toNat ≤ p.maxBytes)
    (hopened : b.opened = true) : (startedEngine p b opnd dir cnt dev reg evt).WellFormed p := by
  obtain ⟨⟨hopen, -⟩, -, -⟩ := hb
  have hzero : cnt ≠ 0#3 := by rintro rfl; simp at hcnt
  cases dir <;>
    simp [BusEngine.WellFormed, BusEngine.Coherent, BusEngine.Unfilled, BusEngine.busy, startedEngine,
      hopened, hopen hopened, hzero, hcnt.2]

theorem BusEngine.WellFormed.completed (hopened : b.opened = true) (havail : b.avail = false)
    (hst : b.st = .awaitStop) :
    ({ b with avail := true, st := .initWrite } : BusEngine).WellFormed p := by
  obtain ⟨⟨hopen, -, -, hcount, -⟩, -, hword⟩ := hb
  have hcnt := (hcount (by simp [BusEngine.busy, hopened, havail])).2 hst
  simp [BusEngine.WellFormed, BusEngine.Coherent, BusEngine.Unfilled, BusEngine.busy, hopened,
    hopen hopened, hcnt, hword]

end Bus

/-- The clauses of the invariant on a bus record that works. -/
theorem BusEngine.wellFormed_iff_of_works {p : Config.Params} {b : BusEngine} (hopened : b.opened = true)
    (havail : b.avail = false) :
    b.WellFormed p ↔ b.recov = false ∧ (b.cnt = 0#3 ↔ b.st = .awaitStop) ∧ b.cnt.toNat ≤ p.maxBytes
      ∧ (b.st = .writeData → b.dir = .write) ∧ ((b.st = .addrForRead ∨ b.st = .initRead) → b.dir = .read)
      ∧ (b.dir = .read → ∀ k, k < b.cnt.toNat → b.word.getD k 0#8 = 0#8) ∧ b.word.length = p.wordLen := by
  simp [BusEngine.WellFormed, BusEngine.Coherent, BusEngine.Unfilled, BusEngine.busy, hopened, havail,
    and_assoc]

theorem placeByte_getD_of_ne (w : List Byte) {c : BitVec 3} (data : Byte) {k : Nat} (h : k ≠ c.toNat) :
    (placeByte w c data).getD k 0#8 = w.getD k 0#8 := by
  simp [placeByte, List.getD_eq_getElem?_getD, Ne.symm h]

/-- A move keeps the count in step with the state, and the bytes still to come 0. -/
theorem BusEngine.Moves.wellFormed {p : Config.Params} {b b' : BusEngine} {as : List BusAction}
    (h : b.Moves b' as) (hb : b.WellFormed p) (hopened : b.opened = true) (havail : b.avail = false) :
    b'.WellFormed p := by
  obtain ⟨hopened', -, havail', -⟩ := h.keeps_flags_params
  rw [wellFormed_iff_of_works hopened havail] at hb
  rw [wellFormed_iff_of_works (hopened'.trans hopened) (havail'.trans havail)]
  obtain ⟨hrecov, hcount, hmax, hwrite, hread, hunf, hword⟩ := hb
  have hpred : b.st ≠ .awaitStop → (b.cnt - 1).toNat = b.cnt.toNat - 1 :=
    fun hst => count_pred_toNat fun h0 => hst (hcount.1 h0)
  cases h with
  | register hst => cases hdir : b.dir <;> simp_all
  | restart hst => simp_all
  | lastSent hst hcnt => simp_all
  | sent hst hcnt =>
    have hpred := hpred (by simp [hst])
    refine ⟨hrecov, iff_of_false hcnt (by simp [hst]), by simp only; omega, hwrite, hread, ?_, hword⟩
    simp [hwrite hst]
  | lastReceived data hst hcnt => simp_all
  | received data hst hcnt =>
    have hpred := hpred (by simp [hst])
    refine ⟨hrecov, iff_of_false hcnt (by simp [hst]), by simp only; omega, hwrite, hread,
      fun hdir k hk => ?_, by simpa using hword⟩
    simp only at hk
    rw [placeByte_getD_of_ne _ _ (by omega)]
    exact hunf hdir k (by omega)

theorem CommandEffect.bus_wellFormed {i : Instr} {s t : State} (h : CommandEffect s i t) {m : BusId}
    (hb : (s.bus m).WellFormed s.cfg) : (t.bus m).WellFormed s.cfg := by
  obtain heq | ⟨hclosed, heq⟩ | ⟨dir, cnt, dev, reg, evt, -, hcnt, hopened, -, heq⟩ := h.bus_cases m <;>
    rw [heq]
  · exact hb
  · exact hb.recovering hclosed
  · exact hb.started hcnt hopened

theorem ConditionEffect.bus_wellFormed {s t : State} (h : ConditionEffect s t) {m : BusId}
    (hb : (s.bus m).WellFormed s.cfg) : (t.bus m).WellFormed s.cfg := by
  obtain heq | ⟨hrecov, heq⟩ | ⟨hopened, havail, ⟨as, hmoves⟩ | ⟨hst, heq⟩⟩ := h.bus_cases m
  · exact heq ▸ hb
  · exact heq ▸ hb.recovered hrecov
  · exact hmoves.wellFormed hb hopened havail
  · exact heq ▸ hb.completed hopened havail hst

/-! ### The serial record -/

theorem SerEngine.Moves.serWellFormed {s : State} {r : SerEngine} {as : List SerAction}
    (h : s.sr.Moves r as) (hs : s.SerWellFormed) (hopened : s.sr.opened = true)
    (havail : s.sr.avail = false) (hst : s.sr.st = .writeData) :
    ({ s with sr := r } : State).SerWellFormed := by
  obtain ⟨hpay, hcur, hlen, -, -, -, htxbl, htxc⟩ := hs
  cases h with
  | sent hlt hlast =>
    have hnext : (s.sr.cur + 1).toNat ≤ s.sr.len.toNat := by bv_omega
    exact ⟨hpay, hnext, hlen, fun _ => hopened, fun _ => hst, by simp [hst], htxbl, htxc⟩
  | lastSent hlt hlast =>
    rw [hlast]
    simp [State.SerWellFormed, State.SerCoherent, SerEngine.busy, hpay, hlen, hopened, havail]
  | nothingLeft heq =>
    simp [State.SerWellFormed, State.SerCoherent, SerEngine.busy, hpay, heq, hlen, hopened, havail]
  | past hlt => omega

theorem CommandEffect.serWellFormed {i : Instr} {s t : State} (h : CommandEffect s i t)
    (hs : s.SerWellFormed) : t.SerWellFormed := by
  cases h with
  | serOpen idx hclosed =>
    obtain ⟨hpay, -, -, -, -, -, htxbl, htxc⟩ := hs
    simp [SerEngine.busy, hclosed] at htxbl htxc
    simp [State.SerWellFormed, State.SerCoherent, SerEngine.busy, hpay, htxbl, htxc]
  | serStart len hlen hopened havail =>
    obtain ⟨hpay, -, -, -, -, -, -, htxc⟩ := hs
    simp [SerEngine.busy, havail] at htxc
    simp [State.SerWellFormed, State.SerCoherent, SerEngine.busy, State.emitSer, startedSerial, hpay, hlen,
      hopened, htxc]
  | busOpen n | busStart n => cases n <;> exact hs
  | answer | evtPost | evtClear | emInit | emBlock | emUnblock | emSleep => exact hs

theorem ConditionEffect.serWellFormed {s t : State} (h : ConditionEffect s t) (hs : s.SerWellFormed) :
    t.SerWellFormed := by
  cases h with
  | serMoves r as hopened havail hst hmoves => exact hmoves.serWellFormed hs hopened havail hst
  | serCompletes hopened havail hst =>
    obtain ⟨hpay, hcur, hlen, -, -, -, htxbl, -⟩ := hs
    simp [hst] at htxbl
    simp [State.SerWellFormed, State.SerCoherent, SerEngine.busy, State.emitSer, hpay, hcur, hlen,
      hopened, htxbl]
  | recovered n | busMoves n | busCompletes n => cases n <;> exact hs
  | nothing | timer => exact hs

/-! ### The vote table -/

theorem State.VotesWellFormed.setVote {s : State} (h : s.VotesWellFormed) (d : Nat) {v : Nat}
    (hv : v < s.cfg.voteBound) : (s.setVote d v).VotesWellFormed := by
  obtain ⟨hlen, hwidth, hbound⟩ := h
  refine ⟨by simpa using hlen, fun x hx => ?_, setVote_votesBounded hbound d hv⟩
  rcases List.mem_or_eq_of_mem_set hx with hx | rfl
  · exact hwidth x hx
  · exact Nat.mod_lt _ (Nat.two_pow_pos _)

/-- A release stays below the bound. -/
theorem State.VotesWellFormed.release {s : State} (h : s.VotesWellFormed) {d : Nat}
    (hvote : s.voteAt d ≠ 0) : (s.setVote d (s.voteAt d - 1)).VotesWellFormed := by
  have hd : d < s.vote.length := by
    by_contra hd
    exact hvote (List.getD_eq_default _ _ (Nat.le_of_not_lt hd))
  have hmem : s.voteAt d ∈ s.vote := by
    rw [State.voteAt, List.getD_eq_getElem _ _ hd]
    exact List.getElem_mem hd
  exact h.setVote d (Nat.lt_of_le_of_lt (Nat.sub_le _ _) (h.2.2 _ hmem))

theorem State.votesWellFormed_zero {s : State} (hcfg : s.cfg.ok = true)
    (h : s.vote = List.replicate s.cfg.nDepths 0) : s.VotesWellFormed := by
  obtain ⟨-, ⟨hbound, -⟩, -⟩ := Config.Params.bounds_of_ok hcfg
  have hpos := Nat.two_pow_pos s.cfg.voteW
  simp only [State.VotesWellFormed, State.VotesBounded, h, List.length_replicate, List.mem_replicate]
  exact ⟨trivial, fun v hv => by omega, fun v hv => by omega⟩

theorem CommandEffect.votesWellFormed {i : Instr} {s t : State} (h : CommandEffect s i t)
    (hcfg : s.cfg.ok = true) (hs : s.VotesWellFormed) : t.VotesWellFormed := by
  cases h with
  | emInit => exact State.votesWellFormed_zero hcfg rfl
  | emBlock d _ hroom => exact hs.setVote _ hroom
  | emUnblock d _ hvote => exact hs.release hvote
  | busOpen n => cases n <;> exact hs
  | busStart n _ _ _ _ _ _ _ _ hroom => cases n <;> exact hs.setVote _ hroom
  | serStart _ _ _ _ hroom => exact hs.setVote _ hroom
  | answer | evtPost | evtClear | emSleep | serOpen => exact hs

theorem ConditionEffect.votesWellFormed {s t : State} (h : ConditionEffect s t)
    (hs : s.VotesWellFormed) : t.VotesWellFormed := by
  cases h with
  | recovered n | busMoves n => cases n <;> exact hs
  | busCompletes n _ _ _ hvote => cases n <;> exact hs.release hvote
  | serCompletes _ _ _ hvote => exact hs.release hvote
  | nothing | timer | serMoves => exact hs

/-! ### The parameters and the registers -/

theorem CommandEffect.registersWellFormed {i : Instr} {s t : State} (h : CommandEffect s i t)
    (hs : s.RegistersWellFormed) : t.cfg = s.cfg ∧ t.RegistersWellFormed := by
  cases h with
  | busOpen n | busStart n => cases n <;> exact ⟨rfl, hs⟩
  | answer | evtPost | evtClear | emInit | emBlock | emUnblock | emSleep | serOpen | serStart =>
    exact ⟨rfl, hs⟩

theorem ConditionEffect.registersWellFormed {s t : State} (h : ConditionEffect s t)
    (hs : s.RegistersWellFormed) : t.cfg = s.cfg ∧ t.RegistersWellFormed := by
  cases h with
  | recovered n | busMoves n | busCompletes n => cases n <;> exact ⟨rfl, hs⟩
  | nothing | timer | serMoves | serCompletes => exact ⟨rfl, hs⟩

/-! ### The recovery in progress -/

theorem State.recoveryCoherent_congr {s t : State} (hs : s.RecoveryCoherent)
    (hcmd : t.cmdBusy = s.cmdBusy) (h0 : t.bus0.recov = s.bus0.recov) (h1 : t.bus1.recov = s.bus1.recov) :
    t.RecoveryCoherent := by
  rwa [State.RecoveryCoherent, hcmd, h0, h1]

theorem CommandEffect.recoveryCoherent {i : Instr} {s t : State} (h : CommandEffect s i t)
    (hport : s.PortOpen) (hs : s.RecoveryCoherent) : t.RecoveryCoherent := by
  cases h with
  | busOpen n =>
    obtain ⟨hcmd, -⟩ := hs
    rw [hport.2, eq_comm, Bool.or_eq_false_iff] at hcmd
    cases n <;> simp [State.RecoveryCoherent, hcmd]
  | busStart n => cases n <;> exact hs
  | answer | evtPost | evtClear | emInit | emBlock | emUnblock | emSleep | serOpen | serStart => exact hs

theorem ConditionEffect.recoveryCoherent {s t : State} (h : ConditionEffect s t)
    (hs : s.RecoveryCoherent) : t.RecoveryCoherent := by
  cases h with
  | recovered n hrecov =>
    obtain ⟨-, hone⟩ := hs
    cases n <;> simp_all [State.RecoveryCoherent]
  | busMoves n b as _ _ hmoves =>
    obtain ⟨-, hrecov, -⟩ := hmoves.keeps_flags_params
    cases n
    · exact State.recoveryCoherent_congr hs rfl hrecov rfl
    · exact State.recoveryCoherent_congr hs rfl rfl hrecov
  | busCompletes n => cases n <;> exact hs
  | nothing | timer | serMoves | serCompletes => exact hs

/-! ### Every instruction and every agent keeps the invariant -/

theorem CommandEffect.inv {i : Instr} {s t : State} (h : CommandEffect s i t) (hport : s.PortOpen)
    (hs : s.Inv) : t.Inv := by
  obtain ⟨hcfg, hregs, hvotes, hbus, hser, hrec⟩ := s.inv_iff.1 hs
  obtain ⟨hcfg', hregs'⟩ := h.registersWellFormed hregs
  refine t.inv_iff.2 ⟨hcfg' ▸ hcfg, hregs', h.votesWellFormed hcfg hvotes, fun n => ?_,
    h.serWellFormed hser, h.recoveryCoherent hport hrec⟩
  rw [hcfg']
  exact h.bus_wellFormed (hbus n)

theorem ConditionEffect.inv {s t : State} (h : ConditionEffect s t) (hs : s.Inv) : t.Inv := by
  obtain ⟨hcfg, hregs, hvotes, hbus, hser, hrec⟩ := s.inv_iff.1 hs
  obtain ⟨hcfg', hregs'⟩ := h.registersWellFormed hregs
  refine t.inv_iff.2 ⟨hcfg' ▸ hcfg, hregs', h.votesWellFormed hvotes, fun n => ?_,
    h.serWellFormed hser, h.recoveryCoherent hrec⟩
  rw [hcfg']
  exact h.bus_wellFormed (hbus n)

/-- While FATAL = 1 the record may be anything. -/
theorem State.inv_raise {s : State} (hs : s.Inv) (r : FatalRec) : (s.raise r).Inv := by
  obtain ⟨hcfg, ⟨-, htmr, hstage⟩, hrest⟩ := s.inv_iff.1 hs
  exact (s.raise r).inv_iff.2 ⟨hcfg, ⟨fun hclear => by simp at hclear, htmr, hstage⟩, hrest⟩

theorem inv_keptByAgents : KeptByAgents State.Inv where
  exec i s hs := exec_elim (fun _ => hs) (fun _ => hs) (fun r _ => State.inv_raise hs r)
    (fun _ hport heffect => heffect.inv hport hs) (fun _ _ heffect => heffect.inv hs)
  raise r _ _ hs := State.inv_raise hs r
  writeOpnd _ _ hs := hs
  writeTmrCfg v s hs := by
    obtain ⟨hcfg, ⟨hrecord, -, hstage⟩, hrest⟩ := s.inv_iff.1 hs
    refine (State.inv_iff _).2 ⟨hcfg, ⟨hrecord, ?_, hstage⟩, hrest⟩
    simp [State.TmrReservedZero, BitVec.and_assoc]
  writeStage k v s hs := by
    obtain ⟨hcfg, ⟨hrecord, htmr, hstage⟩, hrest⟩ := s.inv_iff.1 hs
    exact (State.inv_iff _).2 ⟨hcfg, ⟨hrecord, htmr, by simpa using hstage⟩, hrest⟩
  moveHost _ _ _ _ _ hs := hs
  moveOthers _ _ _ hs := hs
  driveIdle n _ _ hs := by cases n <;> exact hs

/-! ### Reset, and every step -/

theorem BusEngine.reset_wellFormed (p : Config.Params) : (BusEngine.reset p).WellFormed p := by
  simp [BusEngine.WellFormed, BusEngine.Coherent, BusEngine.Unfilled, BusEngine.busy, BusEngine.reset]

theorem resetWith_inv {p : Config.Params} (hcfg : p.ok = true) (draw : Nat) :
    (State.resetWith p draw).Inv := by
  refine (State.inv_iff _).2 ⟨hcfg, ⟨fun _ => ⟨rfl, rfl, rfl⟩, BitVec.zero_and,
    resetWith_stage_length p draw⟩,
    State.votesWellFormed_zero hcfg rfl, fun n => ?_, ⟨SerEngine.reset_pay_length p draw, ?_⟩, rfl, rfl⟩
  · rw [resetWith_bus]
    exact BusEngine.reset_wellFormed p
  · simp [State.SerCoherent, State.resetWith, SerEngine.reset, SerEngine.busy]

theorem State.powerOn_inv {s : State} (hs : s.Inv) : s.powerOn.Inv :=
  resetWith_inv (s.inv_iff.1 hs).1 (s.draws + 1)

/-- No engine works after reset, so none has cast a vote. -/
theorem resetWith_votesBacked (p : Config.Params) (draw : Nat) :
    (State.resetWith p draw).VotesBacked := by
  have hbus : (BusEngine.reset p).busy = false := rfl
  have hser : (SerEngine.reset p draw).busy = false := rfl
  intro d _
  simp [State.engineVotes, State.resetWith, hbus, hser]

/-- Settles O58: the reset of TWCORE's parameters, which are legal. -/
theorem resetMeetsInv : Obligations.ResetMeetsInv := by
  unfold Obligations.ResetMeetsInv
  exact ⟨resetWith_inv (by decide) 0, resetWith_votesBacked _ 0⟩

/-- Settles O59: power-on reset starts again from the invariant, and every other turn keeps it. -/
theorem everyStepKeepsInv : Obligations.EveryStepKeepsInv := by
  unfold Obligations.EveryStepKeepsInv
  intro s hs
  cases hturns : s.turns with
  | nil => exact ⟨s, step_of_no_turns hturns, hs⟩
  | cons turn rest =>
    rw [step_of_turns hturns]
    by_cases hturn : turn = .powerOn
    · subst hturn
      exact ⟨_, rfl, State.powerOn_inv (s := { s with turns := rest }) hs⟩
    · exact inv_keptByAgents.takeTurn (s := { s with turns := rest }) hs hturn

end Sys2Proof.Machine
end

section
/-! PROOFS. The votes the engines have cast stay counted (70_reset_and_hazards.md R364), EM_SLEEP stays above
every blocked depth (R383, 60_exceptions.md R345), and balanced voting adds up (41_arbiter.md R182). -/

namespace Sys2Proof.Machine

/-! ### Reading the table after a vote or a release -/

/-- One vote more at `d` in a table whose bound fits its counters. -/
theorem voteAt_vote {s : State} {d : Nat} (hd : d < s.vote.length)
    (hroom : s.voteAt d + 1 < s.cfg.voteBound) (hwidth : s.cfg.voteBound < 2 ^ s.cfg.voteW) (e : Nat) :
    (s.setVote d (s.voteAt d + 1)).voteAt e = s.voteAt e + if d = e then 1 else 0 := by
  by_cases h : d = e
  · rw [← h, setVote_voteAt_self hd (by omega), if_pos rfl]
  · rw [setVote_voteAt_other s _ (Ne.symm h), if_neg h, Nat.add_zero]

/-- One vote less at `d`. -/
theorem voteAt_release {s : State} {d : Nat} (hd : d < s.vote.length)
    (hwidth : s.voteAt d < 2 ^ s.cfg.voteW) (e : Nat) :
    (s.setVote d (s.voteAt d - 1)).voteAt e = s.voteAt e - if d = e then 1 else 0 := by
  by_cases h : d = e
  · rw [← h, setVote_voteAt_self hd (by omega), if_pos rfl]
  · rw [setVote_voteAt_other s _ (Ne.symm h), if_neg h, Nat.sub_zero]

@[simp] theorem State.respond_voteAt (s : State) (v : Word) (d : Nat) :
    (s.respond v).voteAt d = s.voteAt d := rfl

@[simp] theorem State.post_voteAt (s : State) (i : BitVec 5) (d : Nat) :
    (s.post i).voteAt d = s.voteAt d := rfl

@[simp] theorem State.emitSer_voteAt (s : State) (as : List SerAction) (d : Nat) :
    (s.emitSer as).voteAt d = s.voteAt d := rfl

@[simp] theorem State.emitBus_voteAt (s : State) (n : BusId) (as : List BusAction) (d : Nat) :
    (s.emitBus n as).voteAt d = s.voteAt d := by
  cases n <;> rfl

@[simp] theorem State.setBus_voteAt (s : State) (n : BusId) (b : BusEngine) (d : Nat) :
    (s.setBus n b).voteAt d = s.voteAt d := by
  cases n <;> rfl

/-! ### The votes of the engines -/

/-- The votes against `d` that one engine counts for: its own, where it works and blocks `d`. -/
theorem State.engineVotes_setBus (s : State) (n : BusId) (b : BusEngine) (d : Nat) :
    (s.setBus n b).engineVotes d + (if s.cfg.busBlockDepth = d then (s.bus n).busy.toNat else 0)
      = s.engineVotes d + (if s.cfg.busBlockDepth = d then b.busy.toNat else 0) := by
  cases n <;> simp [State.engineVotes] <;> split <;> omega

@[simp] theorem State.respond_engineVotes (s : State) (v : Word) (d : Nat) :
    (s.respond v).engineVotes d = s.engineVotes d := rfl

@[simp] theorem State.post_engineVotes (s : State) (i : BitVec 5) (d : Nat) :
    (s.post i).engineVotes d = s.engineVotes d := rfl

@[simp] theorem State.setVote_engineVotes (s : State) (d v e : Nat) :
    (s.setVote d v).engineVotes e = s.engineVotes e := rfl

@[simp] theorem State.emitSer_engineVotes (s : State) (as : List SerAction) (d : Nat) :
    (s.emitSer as).engineVotes d = s.engineVotes d := rfl

@[simp] theorem State.emitBus_engineVotes (s : State) (n : BusId) (as : List BusAction) (d : Nat) :
    (s.emitBus n as).engineVotes d = s.engineVotes d := by
  cases n <;> rfl

/-- What the invariant says about the table the engines vote in. -/
theorem State.voteTable_of_inv {s : State} (hs : s.Inv) :
    s.vote.length = s.cfg.nDepths ∧ s.cfg.voteBound < 2 ^ s.cfg.voteW
      ∧ s.cfg.busBlockDepth < s.vote.length ∧ s.cfg.serBlockDepth < s.vote.length
      ∧ ∀ d, s.voteAt d < 2 ^ s.cfg.voteW := by
  obtain ⟨hcfg, hshape, -⟩ := hs
  obtain ⟨-, hbound, hbus, hser, -⟩ := Config.Params.bounds_of_ok hcfg
  exact ⟨hshape.1, hbound.2, hshape.1 ▸ hbus.2, hshape.1 ▸ hser.2, voteAt_lt_width hshape⟩

/-- Where the votes counted at each depth grow by at least as much as the votes cast, or shrink by no more,
the cast ones stay counted. -/
theorem State.votesBacked_of_le {s t : State} (hback : s.VotesBacked) (hcfg : t.cfg = s.cfg)
    (h : ∀ d, t.engineVotes d + s.voteAt d ≤ s.engineVotes d + t.voteAt d) : t.VotesBacked := by
  intro d hd
  have hcounted := hback d (hcfg ▸ hd)
  have hchange := h d
  omega

/-- A record written over one that works as much. -/
theorem State.votesBacked_setBus {s : State} (hback : s.VotesBacked) {n : BusId} {b : BusEngine}
    (hbusy : b.busy = (s.bus n).busy) : (s.setBus n b).VotesBacked := by
  refine State.votesBacked_of_le hback (by simp) fun d => ?_
  have hcast := s.engineVotes_setBus n b d
  rw [hbusy] at hcast
  rw [State.setBus_voteAt]
  omega

theorem State.votesBacked_emitBus {s : State} (hback : s.VotesBacked) (n : BusId) (as : List BusAction) :
    (s.emitBus n as).VotesBacked := by
  cases n <;> exact hback

theorem State.votesBacked_setSr {s : State} (hback : s.VotesBacked) {r : SerEngine}
    (hbusy : r.busy = s.sr.busy) : ({ s with sr := r } : State).VotesBacked := by
  intro d hd
  have hcast : ({ s with sr := r } : State).engineVotes d = s.engineVotes d := by
    simp only [State.engineVotes, hbusy]
  exact hcast.trans_le (hback d hd)

/-- A serial record written together with a counter. -/
theorem State.votesBacked_setVote_setSr {s : State} (hback : s.VotesBacked) {d v : Nat} {r : SerEngine}
    (h : ∀ e, (if s.cfg.serBlockDepth = e then r.busy.toNat else 0) + s.voteAt e
      ≤ (if s.cfg.serBlockDepth = e then s.sr.busy.toNat else 0) + (s.setVote d v).voteAt e) :
    ({ s.setVote d v with sr := r } : State).VotesBacked := by
  intro e he
  change (if s.cfg.busBlockDepth = e then s.bus0.busy.toNat + s.bus1.busy.toNat else 0)
    + (if s.cfg.serBlockDepth = e then r.busy.toNat else 0) ≤ (s.setVote d v).voteAt e
  have hchange := h e
  have hcounted := hback e he
  rw [State.engineVotes] at hcounted
  omega

theorem CommandEffect.votesBacked {i : Instr} {s t : State} (h : CommandEffect s i t) (hs : s.Inv)
    (hback : s.VotesBacked) (hinit : i ≠ .emInit) (hunblock : ∀ d, i ≠ .emUnblock d) :
    t.VotesBacked := by
  obtain ⟨hlen, hwidth, hbus, hser, -⟩ := State.voteTable_of_inv hs
  cases h with
  | emInit => exact absurd rfl hinit
  | emUnblock d => exact absurd rfl (hunblock d)
  | emBlock d hd hroom =>
    refine State.votesBacked_of_le hback rfl fun e => ?_
    have hvote := voteAt_vote (hlen ▸ hd) hroom hwidth e
    simp only [State.respond_engineVotes, State.setVote_engineVotes, State.respond_voteAt]
    omega
  | busOpen n hclosed =>
    exact State.votesBacked_emitBus
      (State.votesBacked_setBus (s := { s with cmdBusy := true }) hback (by simp [BusEngine.busy])) n _
  | busStart n dir cnt dev reg evt _ hopened havail hroom =>
    refine State.votesBacked_of_le hback (by simp) fun e => ?_
    have hvote := voteAt_vote hbus hroom hwidth e
    have hcast := (s.setVote s.cfg.busBlockDepth (s.voteAt s.cfg.busBlockDepth + 1)).engineVotes_setBus n
      (startedEngine s.cfg (s.bus n) s.opnd dir cnt dev reg evt) e
    simp [BusEngine.busy, startedEngine, hopened, havail] at hcast ⊢
    omega
  | serOpen idx hclosed =>
    exact State.votesBacked_setSr hback (by simp [SerEngine.busy, hclosed])
  | serStart len _ hopened havail hroom =>
    refine State.votesBacked_setVote_setSr hback fun e => ?_
    rw [voteAt_vote hser hroom hwidth]
    simp [SerEngine.busy, startedSerial, hopened, havail]
    omega
  | answer | evtPost | evtClear | emSleep => exact hback

theorem ConditionEffect.votesBacked {s t : State} (h : ConditionEffect s t) (hs : s.Inv)
    (hback : s.VotesBacked) : t.VotesBacked := by
  obtain ⟨hlen, -, hbus, hser, hwidth⟩ := State.voteTable_of_inv hs
  cases h with
  | recovered n hrecov =>
    obtain ⟨-, -, -, hwf, -⟩ := s.inv_iff.1 hs
    obtain ⟨⟨hopen, -⟩, -⟩ := hwf n
    have hclosed : (s.bus n).opened = false := by
      by_contra hopened
      simp [hopen (by simpa using hopened)] at hrecov
    exact State.votesBacked_emitBus (State.votesBacked_setBus (s := { s with cmdBusy := false }) hback
      (by simp [BusEngine.busy, hclosed])) n _
  | busMoves n b as _ _ hmoves =>
    obtain ⟨hopened, -, havail, -⟩ := hmoves.keeps_flags_params
    exact State.votesBacked_emitBus
      (State.votesBacked_setBus hback (by rw [BusEngine.busy, hopened, havail, BusEngine.busy])) n as
  | busCompletes n hopened havail _ hvote =>
    refine State.votesBacked_of_le hback (by simp) fun e => ?_
    have hrelease := voteAt_release hbus (hwidth _) e
    have hcast := (s.setVote s.cfg.busBlockDepth (s.voteAt s.cfg.busBlockDepth - 1)).engineVotes_setBus n
      { s.bus n with avail := true, st := .initWrite } e
    simp [BusEngine.busy, hopened, havail] at hcast ⊢
    split at hcast
    case isTrue heq => subst heq; rw [if_pos rfl] at hrelease; omega
    case isFalse hne => rw [if_neg hne] at hrelease; omega
  | serMoves r as _ _ _ hmoves =>
    obtain ⟨hopened, havail, -⟩ := hmoves.keeps_flags_pay
    exact State.votesBacked_setSr (r := r) hback (by rw [SerEngine.busy, hopened, havail, SerEngine.busy])
  | serCompletes hopened havail _ hvote =>
    refine State.votesBacked_setVote_setSr hback fun e => ?_
    rw [voteAt_release hser (hwidth _)]
    simp only [SerEngine.busy, hopened, havail]
    split
    case isTrue heq => subst heq; simp; omega
    case isFalse => simp
  | nothing | timer => exact hback

/-- Settles O55: no other effect lets a counter fall without its engine coming to rest. -/
theorem engineVotesStayCounted : Obligations.EngineVotesStayCounted := by
  unfold Obligations.EngineVotesStayCounted
  intro i s hs hback hinit hunblock
  exact exec_elim (fun _ => hback) (fun _ => hback) (fun _ _ => hback)
    (fun _ _ heffect => heffect.votesBacked hs hback hinit hunblock)
    (fun _ _ heffect => heffect.votesBacked (s := s.wake) hs hback)

/-! ### A correct environment raises no Fatal (60_exceptions.md R336) -/

/-- The vote of an engine that works is there to be released. -/
theorem State.bus_vote_counted {s : State} (hs : s.Inv) (hback : s.VotesBacked) {n : BusId}
    (hopened : (s.bus n).opened = true) (havail : (s.bus n).avail = false) :
    s.voteAt s.cfg.busBlockDepth ≠ 0 := by
  obtain ⟨hlen, -, hbus, -, -⟩ := State.voteTable_of_inv hs
  have hcounted := hback _ (hlen ▸ hbus)
  cases n <;> simp only [State.bus_bus0, State.bus_bus1] at hopened havail <;>
    simp [State.engineVotes, BusEngine.busy, hopened, havail] at hcounted <;> omega

theorem State.ser_vote_counted {s : State} (hs : s.Inv) (hback : s.VotesBacked)
    (hopened : s.sr.opened = true) (havail : s.sr.avail = false) :
    s.voteAt s.cfg.serBlockDepth ≠ 0 := by
  obtain ⟨hlen, -, -, hser, -⟩ := State.voteTable_of_inv hs
  have hcounted := hback _ (hlen ▸ hser)
  simp [State.engineVotes, SerEngine.busy, hopened, havail] at hcounted
  omega

theorem ackRule_accepts {s : State} {n : BusId} (hst : (s.bus n).st ≠ .awaitStop) :
    ∃ t, ackRule n s = .ok t := by
  unfold ackRule
  split
  case h_3 => split <;> exact ⟨_, rfl⟩
  case h_5 h => exact absurd h hst
  all_goals exact ⟨_, rfl⟩

theorem rxdataRule_accepts {s : State} {n : BusId} (data : Byte) (hst : (s.bus n).st = .initRead) :
    ∃ t, rxdataRule n data s = .ok t := by
  simp only [rxdataRule, hst]
  split <;> exact ⟨_, rfl⟩

/-- A condition a bus engine can receive does not fault in it. -/
theorem busRule_of_receives {s : State} {n : BusId} {c : BusCond} (data : Byte) (hs : s.Inv)
    (hback : s.VotesBacked) (hrec : (s.bus n).receives c = true) : ∃ t, busRule n c data s = .ok t := by
  by_cases hrecov : (s.bus n).recov = true
  · cases c with
    | mstop => exact ⟨_, busRule_mstop_recovering data hrecov⟩
    | ack | rxdata => exact ⟨_, busRule_recovering data hrecov (by decide)⟩
  · rw [Bool.not_eq_true] at hrecov
    by_cases hopened : (s.bus n).opened = true
    · have havail : (s.bus n).avail = false := by
        by_contra h
        simp [BusEngine.receives, hrecov, hopened, h] at hrec
      have hvote := State.bus_vote_counted hs hback hopened havail
      rw [busRule_working c data hrecov hopened havail]
      simp only [BusEngine.receives, hrecov, hopened, havail] at hrec
      cases c with
      | ack => exact ackRule_accepts fun hst => by simp [hst] at hrec
      | rxdata => exact rxdataRule_accepts data (by simpa using hrec)
      | mstop => exact ⟨_, mstopRule_completes (by simpa using hrec) hvote⟩
    · exact ⟨s, busRule_unopened c data hrecov (by simpa using hopened)⟩

/-- A condition a correct serial port delivers does not fault. -/
theorem serRule_of_receives {s : State} {c : SerCond} (hs : s.Inv) (hback : s.VotesBacked)
    (hrec : s.serReceives c = true) : ∃ t, serRule c s = .ok t := by
  obtain ⟨-, -, -, -, ⟨-, -, -, -, -, -, htxbl, htxc⟩, -⟩ := s.inv_iff.1 hs
  cases c with
  | txbl =>
    obtain ⟨hbusy, hst⟩ := htxbl.1 hrec
    simp only [SerEngine.busy, Bool.and_eq_true, Bool.not_eq_true'] at hbusy
    exact ⟨_, (serRule_working .txbl hbusy.1 hbusy.2).trans (by simp only [serWorkRule, txblRule, hst]; rfl)⟩
  | txc =>
    obtain ⟨hbusy, hst⟩ := htxc.1 hrec
    simp only [SerEngine.busy, Bool.and_eq_true, Bool.not_eq_true'] at hbusy
    have hvote := State.ser_vote_counted hs hback hbusy.1 hbusy.2
    exact ⟨_, (serRule_working .txc hbusy.1 hbusy.2).trans
      (by simp only [serWorkRule, txcRule, hst, voteUnblock_ok hvote]; rfl)⟩

/-- A condition that comes in protocol order raises no Fatal. -/
theorem exec_of_inOrder {i : Instr} {w : BitVec 13} {s : State} (henc : encode i = .condition w)
    (hs : s.Inv) (hfatal : s.fatal = false) (hback : s.VotesBacked) (horder : s.inOrder i = true) :
    ∃ t, exec i s = .next t ∧ t.fatal = false := by
  have hbus : ∀ n c data, (s.bus n).receives c = true →
      ∃ t, exec (busInstr n c data) s = .next t ∧ t.fatal = false := by
    intro n c data hrec
    obtain ⟨t, hrule⟩ := busRule_of_receives (s := s.wake) data hs hback (by simpa using hrec)
    exact ⟨t, exec_busInstr_ok hfatal hrule, (busRule_keeps_fatal_asleep hrule).1.trans hfatal⟩
  have hser : ∀ c data, s.serReceives c = true →
      ∃ t, exec (serInstr c data) s = .next t ∧ t.fatal = false := by
    intro c data hrec
    obtain ⟨t, hrule⟩ := serRule_of_receives (s := s.wake) (c := c) hs hback hrec
    exact ⟨t, (exec_serInstr c data s).trans (deliver_ok hfatal hrule),
      (serRule_keeps_fatal_asleep hrule).1.trans hfatal⟩
  have htmr : ∀ c data, ∃ t, exec (tmrInstr c data) s = .next t ∧ t.fatal = false := by
    intro c data
    refine ⟨_, exec_tmrInstr_live hfatal c data, ?_⟩
    split <;> exact hfatal
  cases i
  case bus0Ack data => exact hbus .bus0 .ack data horder
  case bus0Rxdata data => exact hbus .bus0 .rxdata data horder
  case bus0Mstop data => exact hbus .bus0 .mstop data horder
  case bus1Ack data => exact hbus .bus1 .ack data horder
  case bus1Rxdata data => exact hbus .bus1 .rxdata data horder
  case bus1Mstop data => exact hbus .bus1 .mstop data horder
  case serTxbl data => exact hser .txbl data horder
  case serTxc data => exact hser .txc data horder
  case tmrComp0 data => exact htmr .comp0 data
  case tmrComp1 data => exact htmr .comp1 data
  case tmrUf data => exact htmr .uf data
  all_goals cases henc

/-- The delivery that meets its duties decodes, and comes in protocol order. -/
theorem State.dutyMet_elim {s : State} {w : BitVec 13} (h : s.dutyMet w = true) :
    ∃ i, decode (.condition w) = .ok i ∧ s.inOrder i = true := by
  unfold State.dutyMet at h
  split at h
  case h_1 => cases h
  case h_2 i hdec => exact ⟨i, hdec, (Bool.and_eq_true_iff.1 h).1⟩

/-- Settles O56: the word decodes, and its engine receives what comes in order. -/
theorem correctEnvironmentNeverFaults : Obligations.CorrectEnvironmentNeverFaults := by
  unfold Obligations.CorrectEnvironmentNeverFaults
  intro s w hs hfatal hback hduty
  obtain ⟨i, hdec, horder⟩ := State.dutyMet_elim hduty
  simp only [condDeliver, hdec]
  exact exec_of_inOrder (encodeInvertsDecode _ _ hdec) hs hfatal hback horder

end Sys2Proof.Machine
end

section
/-! PROOFS. With a correct environment a step faults only by the host's own doing (60_exceptions.md R336):
what a command can fault with, and the CMD write that a turn of the host examines. -/

namespace Sys2Proof.Machine

/-! ### The causes a command raises -/

/-- The cause is none of 0x06 to 0x0C (60_exceptions.md R312). -/
def FatalRec.HostMade (r : FatalRec) : Prop := r.cause.code.toNat < 6 ∨ 12 < r.cause.code.toNat

theorem fatalRec_hostMade {u : UnitId} {c : Cause} {t : Trig} {a : Byte} (h : c.code.toNat < 6) :
    (fatalRec u c t a).HostMade :=
  .inl h

theorem voteBlock_hostMade {t : Trig} {d : Nat} {s : State} {r : FatalRec}
    (h : voteBlock t d s = .error r) : r.HostMade := by
  unfold voteBlock at h
  split at h <;> cases h
  exact fatalRec_hostMade (by decide)

theorem voteUnblock_hostMade {t : Trig} {d : Nat} {s : State} {r : FatalRec}
    (h : voteUnblock t d s = .error r) : r.HostMade := by
  unfold voteUnblock at h
  split at h <;> cases h
  exact fatalRec_hostMade (by decide)

theorem blockAttempt_hostMade {d : BitVec 3} {s : State} {r : FatalRec}
    (h : blockAttempt d s = .fatal r) : r.HostMade := by
  unfold blockAttempt at h
  split at h
  case isTrue =>
    split at h
    case h_1 => cases h
    case h_2 hv => exact Attempt.fatal.inj h ▸ voteBlock_hostMade hv
  case isFalse => cases h; exact fatalRec_hostMade (by decide)

theorem unblockAttempt_hostMade {d : BitVec 3} {s : State} {r : FatalRec}
    (h : unblockAttempt d s = .fatal r) : r.HostMade := by
  unfold unblockAttempt at h
  split at h
  case isTrue =>
    split at h
    case h_1 => cases h
    case h_2 hv => exact Attempt.fatal.inj h ▸ voteUnblock_hostMade hv
  case isFalse => cases h; exact fatalRec_hostMade (by decide)

theorem openAttempt_hostMade {n : BusId} {s : State} {r : FatalRec}
    (h : openAttempt n s = .fatal r) : r.HostMade := by
  unfold openAttempt at h
  split at h <;> cases h
  exact fatalRec_hostMade (by decide)

/-- BUS_START raises BUS_NOT_IDLE only on a bus that is not idle. -/
theorem startAttempt_hostMade {n : BusId} {dir : Dir} {cnt : BitVec 3} {dev : BitVec 7} {reg : Byte}
    {evt : BitVec 5} {s : State} {r : FatalRec} (hidle : s.busIdle n = true)
    (h : startAttempt n dir cnt dev reg evt s = .fatal r) : r.HostMade := by
  unfold startAttempt at h
  split at h
  case isTrue => cases h; exact fatalRec_hostMade (by decide)
  case isFalse =>
    split at h
    case isTrue => cases h; exact fatalRec_hostMade (by decide)
    case isFalse =>
      split at h
      case isTrue => cases h
      case isFalse =>
        rw [if_neg (by simp [hidle])] at h
        split at h
        case h_1 hv => exact Attempt.fatal.inj h ▸ voteBlock_hostMade hv
        case h_2 => cases h

theorem serOpenAttempt_hostMade {idx : BitVec 5} {s : State} {r : FatalRec}
    (h : serOpenAttempt idx s = .fatal r) : r.HostMade := by
  unfold serOpenAttempt at h
  split at h <;> cases h
  exact fatalRec_hostMade (by decide)

theorem serStartAttempt_hostMade {len : Byte} {s : State} {r : FatalRec}
    (h : serStartAttempt len s = .fatal r) : r.HostMade := by
  unfold serStartAttempt at h
  split at h
  case isTrue => cases h; exact fatalRec_hostMade (by decide)
  case isFalse =>
    split at h
    case isTrue => cases h; exact fatalRec_hostMade (by decide)
    case isFalse =>
      split at h
      case isTrue => cases h
      case isFalse =>
        split at h
        case h_1 hv => exact Attempt.fatal.inj h ▸ voteBlock_hostMade hv
        case h_2 => cases h

/-- The attempt commits without setting FATAL, and faults by the host's doing alone. -/
def Attempt.OnlyHostFault (s : State) (a : Attempt) : Prop :=
  (∀ t, a = .commit t → t.fatal = s.fatal) ∧ ∀ r, a = .fatal r → r.HostMade

/-- Every command takes the common step with such an attempt; BUS_START needs an idle bus. -/
theorem exec_command_onlyHostFault {i : Instr} {w : Word} (henc : encode i = .command w) (s : State)
    (hidle : ∀ n dir cnt dev reg evt, i = .busStart n dir cnt dev reg evt → s.busIdle n = true) :
    ∃ a, exec i s = command i s a ∧ a.OnlyHostFault s := by
  cases i
  case evtPost | evtClear | evtPending | emInit | emFirstBlocked | busAvail | busRdata | serAvail =>
    exact ⟨_, rfl, fun _ ha => by cases ha; rfl, fun _ ha => by cases ha⟩
  case emBlock => exact ⟨_, rfl, fun _ => blockAttempt_commit_fatal, fun _ => blockAttempt_hostMade⟩
  case emUnblock => exact ⟨_, rfl, fun _ => unblockAttempt_commit_fatal, fun _ => unblockAttempt_hostMade⟩
  case emSleep =>
    refine ⟨_, rfl, fun _ => sleepAttempt_commit_fatal, fun r ha => ?_⟩
    unfold sleepAttempt at ha
    split at ha <;> cases ha
  case busOpen => exact ⟨_, rfl, fun _ => openAttempt_commit_fatal, fun _ => openAttempt_hostMade⟩
  case busStart =>
    exact ⟨_, rfl, fun _ => startAttempt_commit_fatal,
      fun _ => startAttempt_hostMade (hidle _ _ _ _ _ _ rfl)⟩
  case serOpen => exact ⟨_, rfl, fun _ => serOpenAttempt_commit_fatal, fun _ => serOpenAttempt_hostMade⟩
  case serStart =>
    exact ⟨_, rfl, fun _ => serStartAttempt_commit_fatal, fun _ => serStartAttempt_hostMade⟩
  all_goals cases henc

/-! ### A state whose Fatal, if it has one, is the host's doing -/

def State.OnlyHostFault (t : State) : Prop := t.fatal = true → t.hostFault = true

theorem State.onlyHostFault_of_clear {t : State} (h : t.fatal = false) : t.OnlyHostFault :=
  fun hset => by simp [h] at hset

theorem State.onlyHostFault_raise (s : State) {r : FatalRec} (h : r.HostMade) :
    (s.raise r).OnlyHostFault :=
  fun _ => by rcases h with h | h <;> simp [State.hostFault, h]

theorem command_onlyHostFault {s : State} (hfatal : s.fatal = false) (i : Instr) {a : Attempt}
    (ha : a.OnlyHostFault s) : ∃ t, command i s a = .next t ∧ t.OnlyHostFault := by
  obtain ⟨hcommit, hmade⟩ := ha
  unfold command
  split
  case isTrue => exact ⟨_, rfl, State.onlyHostFault_of_clear hfatal⟩
  case isFalse =>
    cases a with
    | commit t => exact ⟨t, rfl, State.onlyHostFault_of_clear ((hcommit t rfl).trans hfatal)⟩
    | hold => exact ⟨_, rfl, State.onlyHostFault_of_clear hfatal⟩
    | fatal r => exact ⟨_, rfl, s.onlyHostFault_raise (hmade r rfl)⟩

/-! ### The CMD write that the host's turn examines -/

/-- A BUS_START that takes its step finds its bus idle (60_exceptions.md R336 (e)). -/
def State.StartsIdle (s : State) (w : Word) : Prop :=
  ∀ n dir cnt dev reg evt, decode (.command w) = .ok (.busStart n dir cnt dev reg evt) →
    s.portHolds = true ∨ (cntLegal s.cfg cnt = true ∧ (s.bus n).opened = true ∧ (s.bus n).avail = false)
      ∨ s.busIdle n = true

theorem State.startsIdle_of_turnDuty {s : State} {turn : Turn} {w : Word} (h : s.turnDuty turn = true)
    (hw : s.cmdExamined turn = some w) : s.StartsIdle w := by
  intro n dir cnt dev reg evt hdec
  cases turn
  case host | recheck =>
    simpa [State.turnDuty, State.idleDuty, hw, hdec, startAttempt_hold_iff, or_assoc] using h
  all_goals simp [State.cmdExamined] at hw

/-- A rejected command word raises ILLEGAL_CMD. -/
theorem rejectFault_hostMade {w : Word} {r : Reject} (h : decode (.command w) = .error r) :
    (rejectFault r).HostMade := by
  obtain ⟨o, -, -, hdec⟩ | hdec | hdec := decode_command_cases w
  · cases h.symm.trans hdec
  all_goals
    obtain rfl := Except.error.inj (h.symm.trans hdec)
    exact fatalRec_hostMade (by decide)

theorem exec_onlyHostFault {s : State} {w : Word} {i : Instr} (hfatal : s.fatal = false)
    (hopen : ¬ s.portHolds = true) (hstart : s.StartsIdle w) (hdec : decode (.command w) = .ok i) :
    ∃ t, exec i s = .next t ∧ t.OnlyHostFault := by
  by_cases hidle : ∀ n dir cnt dev reg evt, i = .busStart n dir cnt dev reg evt → s.busIdle n = true
  · obtain ⟨a, hexec, ha⟩ := exec_command_onlyHostFault (encodeInvertsDecode _ _ hdec) s hidle
    rw [hexec]
    exact command_onlyHostFault hfatal i ha
  · push Not at hidle
    obtain ⟨n, dir, cnt, dev, reg, evt, rfl, hline⟩ := hidle
    have hhold := ((hstart _ _ _ _ _ _ hdec).resolve_left hopen).resolve_right hline
    have hattempt := startAttempt_hold_iff (dir := dir) (dev := dev) (reg := reg) (evt := evt).2 hhold
    refine command_onlyHostFault (a := startAttempt n dir cnt dev reg evt s) hfatal _ ?_
    rw [hattempt]
    refine ⟨fun _ h => ?_, fun _ h => ?_⟩ <;> cases h

theorem cmdWrite_onlyHostFault {s : State} {w : Word} (hfatal : s.fatal = false)
    (hstart : s.StartsIdle w) : ∃ t, cmdWrite w s = .next t ∧ t.OnlyHostFault := by
  unfold cmdWrite
  split
  case isTrue => exact ⟨_, rfl, State.onlyHostFault_of_clear hfatal⟩
  case isFalse hopen =>
    split
    case h_1 hdec => exact ⟨_, rfl, s.onlyHostFault_raise (rejectFault_hostMade hdec)⟩
    case h_2 hdec => exact exec_onlyHostFault hfatal hopen hstart hdec

/-! ### The same through the host interface and the agents -/

theorem accessFatal_onlyHostFault {s : State} (hfatal : s.fatal = false) (off width : Nat) :
    (s.accessFatal off width).OnlyHostFault := by
  rw [State.accessFatal, if_neg (ne_true_of_eq_false hfatal)]
  exact s.onlyHostFault_raise (.inr (by simp [accessFault, Cause.code]))

theorem readAccess_onlyHostFault {s : State} (hfatal : s.fatal = false) (addr width : Nat) :
    (readAccess addr width s).2.OnlyHostFault := by
  unfold readAccess
  split
  case h_1 => exact State.onlyHostFault_of_clear hfatal
  case h_2 =>
    split
    case isTrue => exact State.onlyHostFault_of_clear hfatal
    case isFalse => exact accessFatal_onlyHostFault hfatal _ _

theorem regAt_eq_cmd {p : Config.Params} {off : Nat} (h : regAt p off = .cmd) : off = 0 := by
  by_contra hne
  simp only [regAt, hne, if_false] at h
  split_ifs at h

/-- A write reaches CMD only where its access is a CMD write. -/
theorem cmdWord_of_reaches {p : Config.Params} {addr width off : Nat} (v : Word)
    (hoff : offsetOf p addr = some off) (hlegal : accessLegal off width = true)
    (hreg : regAt p off = .cmd) : Access.cmdWord p (.write addr width v) = some v := by
  obtain rfl := regAt_eq_cmd hreg
  simp only [accessLegal, Bool.and_eq_true, decide_eq_true_eq] at hlegal
  unfold offsetOf at hoff
  split at hoff
  case isTrue hin =>
    have hsub := Option.some.inj hoff
    have haddr : addr = addrOf p 0 := by unfold addrOf; omega
    exact if_pos ⟨haddr, hlegal.1⟩
  case isFalse => cases hoff

theorem access_onlyHostFault {s : State} {a : Access} (hfatal : s.fatal = false)
    (hstart : ∀ w, a.cmdWord s.cfg = some w → s.StartsIdle w) :
    ∃ t, access a s = .next t ∧ t.OnlyHostFault := by
  cases a with
  | read addr width => exact ⟨_, rfl, readAccess_onlyHostFault hfatal addr width⟩
  | write addr width v =>
    simp only [access, writeAccess]
    split
    case h_1 => exact ⟨s, rfl, State.onlyHostFault_of_clear hfatal⟩
    case h_2 off hoff =>
      split
      case isTrue hlegal =>
        cases hreg : regAt s.cfg off with
        | cmd => exact cmdWrite_onlyHostFault hfatal (hstart v (cmdWord_of_reaches v hoff hlegal hreg))
        | opnd | tmrCfg | stage | resp | status | finfo | reserved =>
          exact ⟨_, rfl, State.onlyHostFault_of_clear hfatal⟩
      case isFalse => exact ⟨_, rfl, accessFatal_onlyHostFault hfatal _ _⟩

theorem recheckTurn_onlyHostFault {s : State} (hfatal : s.fatal = false)
    (hstart : ∀ w, s.cmdExamined .recheck = some w → s.StartsIdle w) :
    ∃ t, recheckTurn s = .next t ∧ t.OnlyHostFault := by
  unfold recheckTurn
  split
  case isTrue => exact ⟨s, rfl, State.onlyHostFault_of_clear hfatal⟩
  case isFalse hawake =>
    split
    case h_1 w hheld =>
      have hstart := hstart w (by simp [State.cmdExamined, hawake, hheld])
      exact cmdWrite_onlyHostFault (s := { s with held := none }) hfatal hstart
    case h_2 => exact ⟨s, rfl, State.onlyHostFault_of_clear hfatal⟩

theorem hostTurn_onlyHostFault {s : State} (hfatal : s.fatal = false)
    (hstart : ∀ w, s.cmdExamined .host = some w → s.StartsIdle w) :
    ∃ t, hostTurn s = .next t ∧ t.OnlyHostFault := by
  unfold hostTurn
  split
  case isTrue => exact ⟨s, rfl, State.onlyHostFault_of_clear hfatal⟩
  case isFalse hawake =>
    split
    case h_1 w hheld =>
      have hstart := hstart w (by simp [State.cmdExamined, hawake, hheld])
      exact cmdWrite_onlyHostFault (s := { s with held := none }) hfatal hstart
    case h_2 hheld =>
      split
      case h_1 a rest hprog =>
        have hexamined : ∀ w, a.cmdWord s.cfg = some w → s.cmdExamined .host = some w := fun w hw => by
          simp [State.cmdExamined, hawake, hheld, hprog, hw]
        exact access_onlyHostFault (s := { s with program := rest }) hfatal
          fun w hw => hstart w (hexamined w hw)
      case h_2 => split <;> exact ⟨_, rfl, State.onlyHostFault_of_clear hfatal⟩

theorem takeTurn_onlyHostFault {s : State} {turn : Turn} (hs : s.Inv) (hfatal : s.fatal = false)
    (hback : s.VotesBacked) (hcond : ∀ w, turn = .cond w → s.dutyMet w = true)
    (hstart : ∀ w, s.cmdExamined turn = some w → s.StartsIdle w) :
    ∃ t, takeTurn turn s = .next t ∧ t.OnlyHostFault := by
  cases turn with
  | host => exact hostTurn_onlyHostFault hfatal hstart
  | recheck => exact recheckTurn_onlyHostFault hfatal hstart
  | cond w =>
    obtain ⟨t, hdeliver, hclear⟩ := correctEnvironmentNeverFaults s w hs hfatal hback (hcond w rfl)
    exact ⟨t, hdeliver, State.onlyHostFault_of_clear hclear⟩
  | idle n v => exact ⟨_, rfl, State.onlyHostFault_of_clear (by simpa using hfatal)⟩
  | probe addr width => exact ⟨_, rfl, readAccess_onlyHostFault hfatal addr width⟩
  | powerOn => exact ⟨_, rfl, State.onlyHostFault_of_clear rfl⟩

/-- Settles O60: conditions in order raise no Fatal, and the host's own turn raises only its causes. -/
theorem correctTurnsLeaveOnlyHostFaults : Obligations.CorrectTurnsLeaveOnlyHostFaults := by
  unfold Obligations.CorrectTurnsLeaveOnlyHostFaults
  intro s turn rest hs hfatal hback hturns hduty
  rw [step_of_turns hturns]
  have hcond : ∀ w, turn = .cond w → s.dutyMet w = true := by
    rintro w rfl
    exact hduty
  exact takeTurn_onlyHostFault (s := { s with turns := rest }) hs hfatal hback hcond
    fun w hw => State.startsIdle_of_turnDuty (s := s) hduty hw

end Sys2Proof.Machine
end

section
/-! PROOFS. More of the arbiter and the command port (41_arbiter.md R172 to R174, R180 to R182,
30_encoding.md R122, R124, 40_scheduler.md R152). -/

namespace Sys2Proof.Machine

/-! ### EVT_CLEAR, and the port that holds -/

theorem encode_evtClear (idx : BitVec 5) :
    encode (.evtClear idx) = .command (0x10000000#32 ||| idx.setWidth 32) :=
  formatE_eq_or .evtClear idx

/-- Settles O11: the word is format E's, and the step clears and responds 0. -/
theorem evtClearClearsItsBit : Obligations.EvtClearClearsItsBit := by
  unfold Obligations.EvtClearClearsItsBit
  intro s idx hport
  exact ⟨encode_evtClear idx, (s.clearEvt idx).evt, command_open hport _ _,
    fun j hj => clearEvt_getLsbD s idx j hj⟩

/-- Settles O7: the write holds before it is decoded, and so does every command. -/
theorem commandPortHolds : Obligations.CommandPortHolds := by
  unfold Obligations.CommandPortHolds
  intro s w hholds
  have hport : s.portHolds = true := by rcases hholds with h | h <;> simp [State.portHolds, h]
  refine ⟨by rw [cmdWrite, if_pos hport, State.holdWrite], fun i henc => ?_⟩
  obtain ⟨a, hexec, -⟩ := exec_command_effect henc s
  rw [hexec, command_held hholds, henc, InputWord.commandWord, State.holdWrite]

/-! ### Operands outside their sets -/

/-- A depth in INFO_A. -/
theorem raise_badDepth (s : State) (o : Opcode) (d : BitVec 3) :
    s.raise (badDepth o d) = { s with
      fatal := true, funit := 2#4, fcause := 0x02#8, finfo := 0#19 ++ o.bits ++ 0#5 ++ d } := by
  rw [State.raise, badDepth, Trig.command, finfo_of_command, append_stateCode]
  rfl

theorem raise_badCount (s : State) (n : BusId) (cnt : BitVec 3) :
    s.raise (fatalRec (.bus n) .badOperand (Trig.command .busStart) (cnt.setWidth 8)) = { s with
      fatal := true, funit := (if n = .bus0 then 3#4 else 4#4), fcause := 0x02#8,
      finfo := 0#19 ++ 0b01010#5 ++ 0#5 ++ cnt } := by
  rw [State.raise, Trig.command, finfo_of_command, append_stateCode, ← UnitId.code_bus]
  rfl

/-- A fault of a command whose INFO_A is a byte. -/
theorem raise_command (s : State) (u : UnitId) (c : Cause) (o : Opcode) (a : Byte) :
    s.raise (fatalRec u c (Trig.command o) a) = { s with
      fatal := true, funit := u.code, fcause := c.code, finfo := 0#19 ++ o.bits ++ a } := by
  rw [State.raise, Trig.command, finfo_of_command]
  rfl

theorem exec_emBlock_open {s : State} (hport : s.PortOpen) (d : BitVec 3) :
    exec (.emBlock d) s = settle (.emBlock d) s (blockAttempt d s) :=
  command_open hport _ _

theorem exec_emUnblock_open {s : State} (hport : s.PortOpen) (d : BitVec 3) :
    exec (.emUnblock d) s = settle (.emUnblock d) s (unblockAttempt d s) :=
  command_open hport _ _

theorem exec_busStart_open {s : State} (hport : s.PortOpen) (n : BusId) (dir : Dir) (cnt : BitVec 3)
    (dev : BitVec 7) (reg : Byte) (evt : BitVec 5) :
    exec (.busStart n dir cnt dev reg evt) s
      = settle (.busStart n dir cnt dev reg evt) s (startAttempt n dir cnt dev reg evt s) :=
  command_open hport _ _

theorem exec_serStart_open {s : State} (hport : s.PortOpen) (len : Byte) :
    exec (.serStart len) s = settle (.serStart len) s (serStartAttempt len s) :=
  command_open hport _ _

/-- Settles O6: each command tests its operand first. -/
theorem operandOutsideItsSetFaults : Obligations.OperandOutsideItsSetFaults := by
  unfold Obligations.OperandOutsideItsSetFaults
  intro s hport
  refine ⟨fun d hd => ⟨?_, ?_⟩, fun n dir cnt dev reg evt hcnt => ?_, fun len hlen => ?_⟩
  · rw [exec_emBlock_open hport, blockAttempt, if_neg (by simpa [depthLegal] using hd), settle, raise_badDepth]
    rfl
  · rw [exec_emUnblock_open hport, unblockAttempt, if_neg (by simpa [depthLegal] using hd), settle,
      raise_badDepth]
    rfl
  · have hbad : cntLegal s.cfg cnt = false := by simp [cntLegal]; omega
    rw [exec_busStart_open hport, startAttempt, if_pos hbad, settle, raise_badCount]
  · have hbad : lenLegal s.cfg len = false := by simpa [lenLegal] using hlen
    rw [exec_serStart_open hport, serStartAttempt, if_pos hbad, settle, raise_command]
    rfl

/-! ### One vote and one release -/

theorem encode_emBlock (d : BitVec 3) :
    encode (.emBlock d) = .command (0x28000000#32 ||| d.setWidth 32) := by
  revert d
  decide

theorem encode_emUnblock (d : BitVec 3) :
    encode (.emUnblock d) = .command (0x30000000#32 ||| d.setWidth 32) := by
  revert d
  decide

section Votes

variable {s : State} {d : BitVec 3} (hport : s.PortOpen) (hd : d.toNat < s.cfg.nDepths)
include hport hd

theorem exec_emBlock_votes (hroom : s.voteAt d.toNat + 1 < s.cfg.voteBound) :
    exec (.emBlock d) s = .next ((s.setVote d.toNat (s.voteAt d.toNat + 1)).respond 0#32) := by
  rw [exec_emBlock_open hport, blockAttempt, if_pos (by simpa [depthLegal] using hd), voteBlock_ok hroom]
  rfl

theorem exec_emBlock_overflows (hfull : s.cfg.voteBound ≤ s.voteAt d.toNat + 1) :
    exec (.emBlock d) s = .next (s.raise (fatalRec .arb .voteOverflow (Trig.command .emBlock)
      (BitVec.ofNat 8 d.toNat))) := by
  rw [exec_emBlock_open hport, blockAttempt, if_pos (by simpa [depthLegal] using hd), voteBlock_error hfull]
  rfl

theorem exec_emUnblock_releases (hvote : s.voteAt d.toNat ≠ 0) :
    exec (.emUnblock d) s = .next ((s.setVote d.toNat (s.voteAt d.toNat - 1)).respond 0#32) := by
  rw [exec_emUnblock_open hport, unblockAttempt, if_pos (by simpa [depthLegal] using hd),
    voteUnblock_ok hvote]
  rfl

theorem exec_emUnblock_underflows (hvote : s.voteAt d.toNat = 0) :
    exec (.emUnblock d) s = .next (s.raise (fatalRec .arb .voteUnderflow (Trig.command .emUnblock)
      (BitVec.ofNat 8 d.toNat))) := by
  rw [exec_emUnblock_open hport, unblockAttempt, if_pos (by simpa [depthLegal] using hd),
    voteUnblock_error hvote]
  rfl

end Votes

/-- A depth in INFO_A, as the vote primitives write it. -/
theorem append_depth {w : Nat} (x : BitVec w) (d : BitVec 3) :
    x ++ BitVec.ofNat 8 d.toNat = x ++ 0#5 ++ d := by
  rw [BitVec.ofNat_toNat, append_stateCode]

/-- Settles O16: the attempt is `voteBlock` at a legal depth. -/
theorem emBlockAddsAVote : Obligations.EmBlockAddsAVote := by
  unfold Obligations.EmBlockAddsAVote
  intro s d hport hd hshape hwidth
  refine ⟨encode_emBlock d, fun hroom => ?_, fun hfull => ?_⟩
  · have hlen : d.toNat < s.vote.length := hshape.1 ▸ hd
    refine ⟨_, exec_emBlock_votes hport hd hroom, by simp, ?_, fun e he => ?_⟩
    · exact setVote_voteAt_self hlen (by omega)
    · exact setVote_voteAt_other s _ he
  · rw [exec_emBlock_overflows hport hd hfull, raise_command, append_depth]
    rfl

/-- Settles O17: the attempt is `voteUnblock` at a legal depth. -/
theorem emUnblockTakesAVote : Obligations.EmUnblockTakesAVote := by
  unfold Obligations.EmUnblockTakesAVote
  intro s d hport hd hshape
  refine ⟨encode_emUnblock d, fun hvote => ?_, fun hvote => ?_⟩
  · have hlen : d.toNat < s.vote.length := hshape.1 ▸ hd
    have hwidth := voteAt_lt_width hshape d.toNat
    refine ⟨_, exec_emUnblock_releases hport hd hvote, by simp, ?_, fun e he => ?_⟩
    · have hread := setVote_voteAt_self (v := s.voteAt d.toNat - 1) hlen (by omega)
      exact (congrArg (· + 1) hread).trans (Nat.sub_add_cancel (Nat.pos_of_ne_zero hvote))
    · exact setVote_voteAt_other s _ he
  · rw [exec_emUnblock_underflows hport hd hvote, raise_command, append_depth]
    rfl

/-! ### EM_SLEEP -/

/-- Settles O20: the rows of `emSleepPicksTheDepth` at TWCORE's parameters. -/
theorem sleepMappingOfTwcore : Obligations.SleepMappingOfTwcore := by
  unfold Obligations.SleepMappingOfTwcore
  intro s v0 v1 v2 v3 v4 hport hcfg hvote
  have hread : ∀ d, s.voteAt d = [v0, v1, v2, v3, v4].getD d 0 := fun d => by rw [State.voteAt, hvote]
  have hdepths : s.cfg.nDepths = 5 := by rw [hcfg]; rfl
  have hdeepest : s.cfg.deepestSleep = 3 := by rw [hcfg]; rfl
  have hpick := fun f => emSleepPicksTheDepth.2 s f hport
  refine ⟨fun h => ?_, fun h0 h1 h2 => ?_, fun h0 h1 h2 h3 => ?_, fun h0 h1 h2 h3 => ?_⟩
  · have hlow : s.firstBlocked < 2 := by
      by_contra hge
      obtain ⟨-, hfree, -⟩ := firstBlocked_spec s
      have hz0 := hfree 0 (by omega)
      have hz1 := hfree 1 (by omega)
      rw [hread] at hz0 hz1
      exact h.elim (fun h => h hz0) (fun h => h hz1)
    exact exec_emSleep_refused hport (sleepTarget_of_lt_two hlow)
  · have hfree : ∀ d, d < 2 → s.voteAt d = 0 := fun d hd => by
      rw [hread]; interval_cases d <;> assumption
    obtain ⟨-, -, hrow⟩ := hpick 2 hfree (.inr ⟨by omega, by rwa [hread]⟩)
    exact hrow (le_refl 2) (by omega)
  · have hfree : ∀ d, d < 3 → s.voteAt d = 0 := fun d hd => by
      rw [hread]; interval_cases d <;> assumption
    obtain ⟨-, -, hrow⟩ := hpick 3 hfree (.inr ⟨by omega, by rwa [hread]⟩)
    exact hrow (by omega) (by omega)
  · have hfree : ∀ d, d < 4 → s.voteAt d = 0 := fun d hd => by
      rw [hread]; interval_cases d <;> assumption
    by_cases h4 : v4 = 0
    · have hfree5 : ∀ d, d < 5 → s.voteAt d = 0 := fun d hd => by
        obtain hlt | rfl : d < 4 ∨ d = 4 := by omega
        · exact hfree d hlt
        · rwa [hread]
      obtain ⟨-, hrow, -⟩ := hpick 5 hfree5 (.inl hdepths.symm)
      rw [hdeepest] at hrow
      exact hrow (by omega) hdepths.symm
    · obtain ⟨-, -, hrow⟩ := hpick 4 hfree (.inr ⟨by omega, by rwa [hread]⟩)
      exact hrow (by omega) (by omega)

/-- The depth EM_SLEEP requests lies between 1 and DEEPEST_SLEEP and above every blocked depth. -/
theorem sleepTarget_bounds {s : State} {k : Nat} (hcfg : s.cfg.ok = true) (h : s.sleepTarget = some k) :
    1 ≤ k ∧ k ≤ s.cfg.deepestSleep ∧ ∀ d, d < s.cfg.nDepths → s.voteAt d ≠ 0 → k < d := by
  obtain ⟨⟨hdepths, hlow, hhigh⟩, -⟩ := Config.Params.bounds_of_ok hcfg
  obtain ⟨hle, hfree, -⟩ := firstBlocked_spec s
  have habove : ∀ d, s.voteAt d ≠ 0 → s.firstBlocked ≤ d := fun d hd => by
    by_contra hlt
    exact hd (hfree d (by omega))
  unfold State.sleepTarget at h
  split_ifs at h with hshallow hnone
  · obtain rfl := Option.some.inj h
    refine ⟨by omega, le_refl _, fun d hd hvote => ?_⟩
    have := habove d hvote
    omega
  · obtain rfl := Option.some.inj h
    refine ⟨by omega, by omega, fun d hd hvote => ?_⟩
    have := habove d hvote
    omega

/-- Settles O21: the requested depth lies above every blocked one, and a vote that is counted blocks its
engine's depth. -/
theorem sleepStaysAboveEveryBlockedDepth : Obligations.SleepStaysAboveEveryBlockedDepth := by
  unfold Obligations.SleepStaysAboveEveryBlockedDepth
  intro s hport hcfg
  obtain ⟨-, -, ⟨-, hbus⟩, ⟨-, hser⟩, -⟩ := Config.Params.bounds_of_ok hcfg
  cases htarget : s.sleepTarget with
  | none => exact ⟨_, exec_emSleep_refused hport htarget, .inl rfl⟩
  | some k =>
    obtain ⟨hone, hdeepest, habove⟩ := sleepTarget_bounds hcfg htarget
    refine ⟨_, exec_emSleep_requests hport htarget, .inr ⟨k, rfl, hone, hdeepest, habove, ?_, ?_⟩⟩
    · intro hback hbusy
      have hcounted := hback _ hbus
      refine habove _ hbus fun hzero => ?_
      rcases hbusy with h | h <;> simp [State.engineVotes, h, hzero] at hcounted
    · intro hback hbusy
      have hcounted := hback _ hser
      refine habove _ hser fun hzero => ?_
      simp [State.engineVotes, hbusy, hzero] at hcounted

/-! ### Balanced voting -/

theorem execAll_cons {i : Instr} {s t : State} (h : exec i s = .next t) (is : List Instr) :
    execAll (i :: is) s = execAll is t := by
  rw [execAll, h]

/-- What one vote or release adds to the counter at `d`. -/
def VoteOp.weight (o : VoteOp) (d : Nat) : Int :=
  if o.depth.toNat = d then (if o.isBlock then 1 else -1) else 0

theorem tally_cons (d : Nat) (o : VoteOp) (os : List VoteOp) : tally d (o :: os) = o.weight d + tally d os :=
  rfl

/-- A vote or release that stays within the bounds changes its counter by its weight. -/
theorem exec_voteOp {s : State} {o : VoteOp} (hport : s.PortOpen) (hshape : s.Shape)
    (hwidth : s.cfg.voteBound < 2 ^ s.cfg.voteW) (hd : o.depth.toNat < s.cfg.nDepths)
    (hlow : 0 ≤ (s.voteAt o.depth.toNat : Int) + o.weight o.depth.toNat)
    (hhigh : (s.voteAt o.depth.toNat : Int) + o.weight o.depth.toNat < s.cfg.voteBound) :
    ∃ t, exec o.instr s = .next t ∧ t.PortOpen ∧ t.Shape ∧ t.cfg = s.cfg
      ∧ ∀ d, (t.voteAt d : Int) = s.voteAt d + o.weight d := by
  have hlen : o.depth.toNat < s.vote.length := hshape.1 ▸ hd
  cases hblock : o.isBlock with
  | true =>
    have hweight : ∀ d, o.weight d = if o.depth.toNat = d then 1 else 0 := by simp [VoteOp.weight, hblock]
    rw [hweight, if_pos rfl] at hhigh
    have hroom : s.voteAt o.depth.toNat + 1 < s.cfg.voteBound := by omega
    rw [VoteOp.instr, if_pos hblock]
    refine ⟨_, exec_emBlock_votes hport hd hroom, hport, setVote_shape hshape _ _, rfl, fun d => ?_⟩
    rw [State.respond_voteAt, voteAt_vote hlen hroom hwidth, hweight]
    split <;> rfl
  | false =>
    have hweight : ∀ d, o.weight d = if o.depth.toNat = d then -1 else 0 := by
      simp [VoteOp.weight, hblock]
    rw [hweight, if_pos rfl] at hlow
    have hvote : s.voteAt o.depth.toNat ≠ 0 := by omega
    rw [VoteOp.instr, if_neg (by simp [hblock])]
    refine ⟨_, exec_emUnblock_releases hport hd hvote, hport, setVote_shape hshape _ _, rfl, fun d => ?_⟩
    rw [State.respond_voteAt, voteAt_release hlen (voteAt_lt_width hshape _), hweight]
    split
    case isTrue heq => subst heq; omega
    case isFalse => rfl

/-- Settles O22: by induction on the sequence, each prefix within the bounds. -/
theorem balancedVotingReturnsToItsStart : Obligations.BalancedVotingReturnsToItsStart := by
  unfold Obligations.BalancedVotingReturnsToItsStart
  intro s os
  induction os generalizing s with
  | nil => exact fun hport _ _ _ _ => ⟨s, rfl, hport.1, fun d _ => by simp [tally]⟩
  | cons o os ih =>
    intro hport hshape hwidth hdepths hbounds
    have hd := hdepths o List.mem_cons_self
    have hfirst := hbounds [o] _ (List.prefix_append [o] os) hd
    rw [tally_cons, tally, add_zero] at hfirst
    obtain ⟨t, hexec, hport', hshape', hcfg, hvotes⟩ :=
      exec_voteOp hport hshape hwidth hd hfirst.1 hfirst.2
    obtain ⟨u, hall, hfatal, hsum⟩ := ih t hport' hshape' (by rwa [hcfg])
      (fun o' ho' => hcfg ▸ hdepths o' (List.mem_cons_of_mem o ho'))
      (fun p d hp hlt => by
        have := hbounds (o :: p) d (List.cons_prefix_cons.2 ⟨rfl, hp⟩) (hcfg ▸ hlt)
        rwa [tally_cons, ← add_assoc, ← hvotes, ← hcfg] at this)
    refine ⟨u, (execAll_cons hexec _).trans hall, hfatal, fun d hlt => ?_⟩
    rw [hsum d (hcfg ▸ hlt), hvotes, tally_cons, add_assoc]

end Sys2Proof.Machine
end

section
/-! PROOFS. The starts and queries of the engines (42_bus_engine.md R210 to R213, R222; 43_serial_engine.md
R255 to R262): what each branch of their rules commits. -/

namespace Sys2Proof.Machine

/-! ### BUS_START -/

/-- A fault of a bus command that records the FSM state. -/
theorem raise_busCommandFault (s : State) (n : BusId) (c : Cause) (o : Opcode) (st : BusSt) :
    s.raise (busFault n c (Trig.command o) st) = { s with
      fatal := true, funit := (if n = .bus0 then 3#4 else 4#4), fcause := c.code,
      finfo := 0#19 ++ o.bits ++ 0#5 ++ st.code } := by
  rw [busFault, raise_command, append_stateCode, UnitId.code_bus]

theorem cntLegal_of_bounds {p : Config.Params} {cnt : BitVec 3} (h1 : 1 ≤ cnt.toNat)
    (hmax : cnt.toNat ≤ p.maxBytes) : cntLegal p cnt = true := by
  simp [cntLegal, h1, hmax]

theorem startedEngine_eq {p : Config.Params} {b : BusEngine} (hopened : b.opened = true) (opnd : Word)
    (dir : Dir) (cnt : BitVec 3) (dev : BitVec 7) (reg : Byte) (evt : BitVec 5) :
    startedEngine p b opnd dir cnt dev reg evt =
      { opened := true, recov := b.recov, avail := false, st := .initWrite,
        word := (if dir = Dir.write
          then (List.range (p.dataW / 8)).map (fun k => opnd.extractLsb' (8 * k) 8)
          else List.replicate (p.dataW / 8) 0#8),
        cnt := cnt, dev := dev, reg := reg, dir := dir, evt := evt } := by
  rw [← hopened]
  cases dir <;> rfl

section BusStart

variable {s : State} {n : BusId} {cnt : BitVec 3} (hport : s.PortOpen) (h1 : 1 ≤ cnt.toNat)
  (hmax : cnt.toNat ≤ s.cfg.maxBytes) (dir : Dir) (dev : BitVec 7) (reg : Byte) (evt : BitVec 5)
include hport h1 hmax

theorem exec_busStart_unopened (hclosed : (s.bus n).opened = false) :
    exec (.busStart n dir cnt dev reg evt) s =
      .next (s.raise (busFault n .sequence (Trig.command .busStart) (s.bus n).st)) := by
  rw [exec_busStart_open hport, startAttempt, if_neg (by simp [cntLegal_of_bounds h1 hmax]),
    if_pos hclosed]
  rfl

variable (hopened : (s.bus n).opened = true)
include hopened

theorem exec_busStart_holds (havail : (s.bus n).avail = false) :
    exec (.busStart n dir cnt dev reg evt) s =
      .next (s.holdWrite (encode (.busStart n dir cnt dev reg evt)).commandWord) := by
  rw [exec_busStart_open hport, startAttempt_hold_iff.2 ⟨cntLegal_of_bounds h1 hmax, hopened, havail⟩]
  rfl

variable (havail : (s.bus n).avail = true)
include havail

theorem exec_busStart_not_idle (hidle : s.busIdle n = false) :
    exec (.busStart n dir cnt dev reg evt) s =
      .next (s.raise (busFault n .busNotIdle (Trig.command .busStart) (s.bus n).st)) := by
  rw [exec_busStart_open hport, startAttempt, if_neg (by simp [cntLegal_of_bounds h1 hmax]),
    if_neg (by simp [hopened]), if_neg (by simp [havail]), if_pos hidle]
  rfl

variable (hidle : s.busIdle n = true)
include hidle

theorem exec_busStart_overflows (hfull : s.cfg.voteBound ≤ s.voteAt s.cfg.busBlockDepth + 1) :
    exec (.busStart n dir cnt dev reg evt) s =
      .next (s.raise (fatalRec .arb .voteOverflow (Trig.command .busStart)
        (BitVec.ofNat 8 s.cfg.busBlockDepth))) := by
  rw [exec_busStart_open hport, startAttempt, if_neg (by simp [cntLegal_of_bounds h1 hmax]),
    if_neg (by simp [hopened]), if_neg (by simp [havail]), if_neg (by simp [hidle]),
    voteBlock_error hfull]
  rfl

/-- The start that commits: the vote, the stored parameters and START_W. -/
theorem exec_busStart_begins (hroom : s.voteAt s.cfg.busBlockDepth + 1 < s.cfg.voteBound) :
    exec (.busStart n dir cnt dev reg evt) s =
      .next ((((s.setVote s.cfg.busBlockDepth (s.voteAt s.cfg.busBlockDepth + 1)).respond 0#32).setBus n
        (startedEngine s.cfg (s.bus n) s.opnd dir cnt dev reg evt)).emitBus n [.startW dev]) := by
  rw [exec_busStart_open hport, startAttempt, if_neg (by simp [cntLegal_of_bounds h1 hmax]),
    if_neg (by simp [hopened]), if_neg (by simp [havail]), if_neg (by simp [hidle]), voteBlock_ok hroom]
  simp only [State.respond_emitBus_setBus, State.setVote_bus]
  rfl

end BusStart

/-- Settles O25: the last branch of the attempt, with the record written out. -/
theorem busStartBeginsATransaction : Obligations.BusStartBeginsATransaction := by
  unfold Obligations.BusStartBeginsATransaction
  intro s n dir cnt dev reg evt hport h1 hmax hopened havail hidle hroom
  rw [exec_busStart_begins hport h1 hmax dir dev reg evt hopened havail hidle hroom,
    startedEngine_eq hopened]
  rfl

/-- Settles O26: the branches of the attempt that fault, in their order. -/
theorem busStartFaultsInOrder : Obligations.BusStartFaultsInOrder := by
  unfold Obligations.BusStartFaultsInOrder
  intro s n dir cnt dev reg evt hport h1 hmax
  refine ⟨fun hclosed => ?_, fun hopened havail hidle => ?_, fun hopened havail hidle hfull => ?_⟩
  · rw [exec_busStart_unopened hport h1 hmax dir dev reg evt hclosed, raise_busCommandFault]
    rfl
  · rw [exec_busStart_not_idle hport h1 hmax dir dev reg evt hopened havail hidle, raise_busCommandFault]
    rfl
  · rw [exec_busStart_overflows hport h1 hmax dir dev reg evt hopened havail hidle hfull, raise_command]
    rfl

/-! ### SER_START -/

section SerStart

variable {s : State} {len : Byte} (hport : s.PortOpen) (hlen : len.toNat ≤ s.cfg.serMaxLen)
include hport hlen

theorem exec_serStart_unopened (hclosed : s.sr.opened = false) :
    exec (.serStart len) s =
      .next (s.raise (serFault .sequence (Trig.command .serStart) s.sr.st)) := by
  rw [exec_serStart_open hport, serStartAttempt, if_neg (by simpa [lenLegal] using hlen), if_pos hclosed]
  rfl

variable (hopened : s.sr.opened = true)
include hopened

theorem exec_serStart_holds (havail : s.sr.avail = false) :
    exec (.serStart len) s = .next (s.holdWrite (encode (.serStart len)).commandWord) := by
  rw [exec_serStart_open hport, serStartAttempt, if_neg (by simpa [lenLegal] using hlen),
    if_neg (by simp [hopened]), if_pos havail]
  rfl

variable (havail : s.sr.avail = true)
include havail

theorem exec_serStart_overflows (hfull : s.cfg.voteBound ≤ s.voteAt s.cfg.serBlockDepth + 1) :
    exec (.serStart len) s =
      .next (s.raise (fatalRec .arb .voteOverflow (Trig.command .serStart)
        (BitVec.ofNat 8 s.cfg.serBlockDepth))) := by
  rw [exec_serStart_open hport, serStartAttempt, if_neg (by simpa [lenLegal] using hlen),
    if_neg (by simp [hopened]), if_neg (by simp [havail]), voteBlock_error hfull]
  rfl

/-- The start that commits: the vote, the payload and IEN_TXBL(1). -/
theorem exec_serStart_begins (hroom : s.voteAt s.cfg.serBlockDepth + 1 < s.cfg.voteBound) :
    exec (.serStart len) s =
      .next (({ s.setVote s.cfg.serBlockDepth (s.voteAt s.cfg.serBlockDepth + 1) with
        sr := startedSerial s.sr s.stage len }.emitSer [.ienTxbl true]).respond 0#32) := by
  rw [exec_serStart_open hport, serStartAttempt, if_neg (by simpa [lenLegal] using hlen),
    if_neg (by simp [hopened]), if_neg (by simp [havail]), voteBlock_ok hroom]
  rfl

end SerStart

/-- Settles O38: the branches of the attempt past the range check, the payload byte by byte. -/
theorem serStartBeginsATransmission : Obligations.SerStartBeginsATransmission := by
  unfold Obligations.SerStartBeginsATransmission
  intro s len hport hshape hlen
  obtain ⟨-, -, hstage, hpay, -, -⟩ := hshape
  refine ⟨fun hopened havail hroom => ?_, fun hclosed => ?_, fun hopened havail hfull => ?_⟩
  · exact ⟨copyPayload len.toNat s.stage s.sr.pay, exec_serStart_begins hport hlen hopened havail hroom,
      by simpa using hpay,
      fun k hk => copyPayload_getD len.toNat s.stage s.sr.pay k (hstage ▸ hk) (hpay ▸ hk)⟩
  · rw [exec_serStart_unopened hport hlen hclosed, raise_serSequence]
    rfl
  · rw [exec_serStart_overflows hport hlen hopened havail hfull, raise_command]
    rfl

/-- Settles O27: the attempts of both starts are holds. -/
theorem startsHoldWhileBusy : Obligations.StartsHoldWhileBusy := by
  unfold Obligations.StartsHoldWhileBusy
  intro s hport
  refine ⟨fun n dir cnt dev reg evt w h1 hmax hopened havail henc => ?_,
    fun len w hlen hopened havail henc => ?_⟩
  · rw [exec_busStart_holds hport h1 hmax dir dev reg evt hopened havail, henc]
    rfl
  · rw [exec_serStart_holds hport hlen hopened havail, henc]
    rfl

/-! ### The queries -/

theorem flagWord_eq (b : Bool) : flagWord b = if b then 1#32 else 0#32 := by
  cases b <;> rfl

/-- Settles O28: the words are formats C and N, and each query responds with what it reads. -/
theorem queriesAnswerInResp : Obligations.QueriesAnswerInResp := by
  unfold Obligations.QueriesAnswerInResp
  refine ⟨fun n => by cases n <;> decide, by decide, fun s hport => ⟨fun n => ⟨?_, ?_⟩, ?_⟩⟩
  · exact (command_open hport _ _).trans (by rw [flagWord_eq]; rfl)
  · exact command_open hport _ _
  · exact (command_open hport _ _).trans (by rw [flagWord_eq]; rfl)

/-! ### RXDATA in INIT_READ -/

theorem rxdataRule_lastByte {s : State} {n : BusId} (data : Byte) (hst : (s.bus n).st = .initRead)
    (hcnt : (s.bus n).cnt = 1#3) :
    rxdataRule n data s = .ok ((s.setBus n { s.bus n with
      word := placeByte (s.bus n).word 0#3 data, cnt := 0#3, st := .awaitStop }).emitBus n
        [.nack, .stop]) := by
  simp [rxdataRule, hst, hcnt]

theorem rxdataRule_nextByte {s : State} {n : BusId} (data : Byte) (hst : (s.bus n).st = .initRead)
    (hone : (s.bus n).cnt ≠ 1#3) :
    rxdataRule n data s = .ok ((s.setBus n { s.bus n with
      word := placeByte (s.bus n).word ((s.bus n).cnt - 1) data, cnt := (s.bus n).cnt - 1 }).emitBus n
        [.ack]) := by
  have hmore : (s.bus n).cnt - 1 ≠ 0#3 := fun h => hone (sub_eq_zero.1 h)
  simp only [rxdataRule, hst, if_neg hmore]

theorem State.Shape.word_length {s : State} (hshape : s.Shape) (n : BusId) :
    (s.bus n).word.length = s.cfg.wordLen := by
  obtain ⟨-, -, -, -, h0, h1⟩ := hshape
  cases n
  · exact h0
  · exact h1

/-- The place of the next byte is inside the word and still 0. -/
theorem next_place_empty {p : Config.Params} {b : BusEngine} (hcfg : p.ok = true) (hcoh : b.Coherent p)
    (hunf : b.Unfilled) (hword : b.word.length = p.wordLen) (hbusy : b.busy = true)
    (hst : b.st = .initRead) :
    (b.cnt - 1).toNat = b.cnt.toNat - 1 ∧ b.word.getD (b.cnt - 1).toNat 0#8 = 0#8
      ∧ (b.cnt - 1).toNat < b.word.length := by
  obtain ⟨-, -, -, -, ⟨-, hmaxBytes⟩⟩ := Config.Params.bounds_of_ok hcfg
  obtain ⟨-, -, -, hcount, hmax, -, hread⟩ := hcoh
  have hne : b.cnt ≠ 0#3 := fun h => by simpa [hst] using (hcount hbusy).1 h
  have hpred := count_pred_toNat hne
  have hpos : 0 < b.cnt.toNat := by bv_omega
  exact ⟨hpred, hunf hbusy (hread (.inr hst)) _ (by omega), by omega⟩

/-- Settles O30: the bytes still to come are 0, so the byte takes its place alone. -/
theorem rxdataPlacesTheByte : Obligations.RxdataPlacesTheByte := by
  unfold Obligations.RxdataPlacesTheByte
  intro s n b hworks hcoh hunf hshape hcfg hst
  have hbusy : (s.bus n).busy = true := by simp [BusEngine.busy, hworks.2.2.1, hworks.2.2.2]
  obtain ⟨hpred, hempty, hin⟩ := next_place_empty hcfg hcoh hunf (hshape.word_length n) hbusy hst
  have hne := count_ne_zero_of_works hworks hcoh (by simp [hst])
  refine ⟨placeByte (s.bus n).word ((s.bus n).cnt - 1) b, by simp, fun k => ?_, fun hone => ?_, fun hone => ?_⟩
  · rw [placeByte_getD b k hempty hin, hpred]
  · rw [← count_pred_eq_ofNat hne]
    rw [← s.wake_bus n] at hst hone ⊢
    exact exec_busInstr_works_ok hworks (rxdataRule_nextByte b hst hone)
  · have hlast : (s.bus n).cnt - 1 = 0#3 := by rw [hone]; rfl
    rw [hlast]
    rw [← s.wake_bus n] at hst hone ⊢
    exact exec_busInstr_works_ok hworks (rxdataRule_lastByte b hst hone)

/-! ### TXBL and TXC in a working engine -/

theorem exec_serInstr_works_ok {s t : State} {c : SerCond} {data : Byte} (hworks : s.SerWorks)
    (hrule : serWorkRule c s.wake = .ok t) : exec (serInstr c data) s = .next t := by
  obtain ⟨hfatal, hopened, havail⟩ := hworks
  rw [exec_serInstr]
  exact deliver_ok hfatal ((serRule_working (s := s.wake) c hopened havail).trans hrule)

theorem exec_serInstr_works_error {s : State} {r : FatalRec} {c : SerCond} {data : Byte}
    (hworks : s.SerWorks) (hrule : serWorkRule c s.wake = .error r) :
    exec (serInstr c data) s = .next (s.raise r) := by
  obtain ⟨hfatal, hopened, havail⟩ := hworks
  rw [exec_serInstr]
  exact deliver_error hfatal ((serRule_working (s := s.wake) c hopened havail).trans hrule)

theorem txblRule_writeData {s : State} (hst : s.sr.st = .writeData) :
    txblRule s = .ok (endBytes (sendByte s)) := by
  simp only [txblRule, hst]

/-- TXBL in WRITE_DATA is one move of the record. -/
theorem exec_serTxbl_of_moves {s : State} {r : SerEngine} {as : List SerAction} (data : Byte)
    (hworks : s.SerWorks) (hst : s.sr.st = .writeData) (hmoves : s.sr.Moves r as) :
    exec (.serTxbl data) s = .next ({ s.wake with sr := r }.emitSer as) := by
  rw [← endBytes_sendByte_of_moves (s := s.wake) hmoves]
  exact exec_serInstr_works_ok (c := .txbl) hworks (txblRule_writeData hst)

/-- Settles O39: which of the moves it is, by the cursor. -/
theorem txblSendsTheNextByte : Obligations.TxblSendsTheNextByte := by
  unfold Obligations.TxblSendsTheNextByte
  intro s data hworks hcoh hst
  refine ⟨fun hlt => ?_, fun hlast => ?_, fun hnone => ?_⟩
  · have hnext : s.sr.cur + 1 = BitVec.ofNat 8 (s.sr.cur.toNat + 1) := by bv_omega
    rw [exec_serTxbl_of_moves data hworks hst (.sent (by omega) (by bv_omega)), hnext]
    rfl
  · have hnext : s.sr.cur + 1 = s.sr.len := by bv_omega
    rw [exec_serTxbl_of_moves data hworks hst (.lastSent (by omega) hnext), hnext]
    rfl
  · rw [exec_serTxbl_of_moves data hworks hst (.nothingLeft hnone)]
    rfl

theorem txcRule_completes {s : State} (hst : s.sr.st = .stop) (hvote : s.voteAt s.cfg.serBlockDepth ≠ 0) :
    txcRule s = .ok (({ s.setVote s.cfg.serBlockDepth (s.voteAt s.cfg.serBlockDepth - 1) with
      sr := { s.sr with ienTxc := false, st := .writeData, avail := true } }.emitSer
        [.ienTxc false]).post s.sr.evt) := by
  simp only [txcRule, hst, voteUnblock_ok hvote]
  rfl

theorem txcRule_underflows {s : State} (hst : s.sr.st = .stop)
    (hvote : s.voteAt s.cfg.serBlockDepth = 0) :
    txcRule s = .error (fatalRec .arb .voteUnderflow (Trig.serCond .txc)
      (BitVec.ofNat 8 s.cfg.serBlockDepth)) := by
  simp only [txcRule, hst, voteUnblock_error hvote]

/-- Settles O40: with a vote to release the transmission completes and posts its event; without one the
release underflows. -/
theorem txcCompletesATransmission : Obligations.TxcCompletesATransmission := by
  unfold Obligations.TxcCompletesATransmission
  intro s data hworks hst
  refine ⟨fun hvote => ?_, fun hvote => ?_⟩
  · exact ⟨_, exec_serInstr_works_ok (c := .txc) hworks (txcRule_completes (s := s.wake) hst hvote),
      fun j _ => post_getLsbD s s.sr.evt j⟩
  · refine (exec_serInstr_works_error (c := .txc) hworks (txcRule_underflows (s := s.wake) hst hvote)).trans ?_
    rw [State.raise, Trig.serCond, finfo_of_condition]
    rfl

end Sys2Proof.Machine
end

section
/-! PROOFS. What an aligned 32-bit access reads and writes, register by register (44_host_interface.md R281,
R282, 20_memory.md R84, R85), and the turn that runs a decoded word or a held write (R283, R287). -/

namespace Sys2Proof.Machine

/-! ### The address map above the first registers -/

theorem regAt_gap (p : Config.Params) {off : Nat} (hlow : 0x018 ≤ off) (hhigh : off < 0x100) :
    regAt p off = .reserved := by
  rw [regAt, if_neg (by omega), if_neg (by omega), if_neg (by omega), if_neg (by omega),
    if_neg (by omega), if_neg (by omega), if_neg (by omega)]

theorem regAt_window (p : Config.Params) {off : Nat} (hoff : 0x100 ≤ off) :
    regAt p off
      = if (off - 0x100) / 4 < stageWords p then .stage ((off - 0x100) / 4) else .reserved := by
  rw [regAt, if_neg (by omega), if_neg (by omega), if_neg (by omega), if_neg (by omega),
    if_neg (by omega), if_neg (by omega)]
  simp only [hoff, true_and]

/-- A word past the window lies past the buffer. -/
theorem past_buffer {p : Config.Params} {off : Nat}
    (hpast : ¬ (off - 0x100) / 4 < stageWords p) : p.serMaxLen ≤ off - 0x100 := by
  unfold stageWords at hpast
  omega

/-- The four lanes of a STAGE word. -/
theorem stageWord_extract (l : List Byte) (k : Nat) {j : Nat} (hj : j < 4) :
    (stageWord l k).extractLsb' (8 * j) 8 = l.getD (4 * k + j) 0#8 := by
  unfold stageWord
  obtain rfl | rfl | rfl | rfl : j = 0 ∨ j = 1 ∨ j = 2 ∨ j = 3 := by omega
  all_goals
    simp (disch := decide) only [BitVec.extractLsb'_append_eq_of_add_le,
      BitVec.extractLsb'_append_eq_of_le]
    simp

/-- What a read of the window answers, lane by lane. -/
theorem readReg_window_lane {s : State} {off j : Nat} (hshape : s.Shape) (hoff : 0x100 ≤ off)
    (halign : off % 4 = 0) (hj : j < 4) :
    (s.readReg (regAt s.cfg off)).extractLsb' (8 * j) 8
      = if off - 0x100 + j < s.cfg.serMaxLen then s.stage.getD (off - 0x100 + j) 0#8 else 0#8 := by
  obtain ⟨-, -, hstage, -, -, -⟩ := hshape
  rw [regAt_window s.cfg hoff]
  split
  case isTrue =>
    rw [State.readReg, stageWord_extract _ _ hj, show 4 * ((off - 0x100) / 4) + j = off - 0x100 + j by omega]
    split
    case isTrue => rfl
    case isFalse hpast => exact List.getD_eq_default _ _ (by omega)
  case isFalse hpast =>
    have := past_buffer hpast
    rw [if_neg (by omega), State.readReg, BitVec.extractLsb'_zero]

/-- Settles O43: the register the offset names, read. -/
theorem registerReads : Obligations.RegisterReads := by
  unfold Obligations.RegisterReads
  intro s off hshape hmax hoff halign
  refine ⟨s.readReg (regAt s.cfg off), readAccess_aligned s hoff halign, ?_, ?_, ?_, ?_, ?_, ?_, ?_, ?_⟩
  case refine_7 => exact fun hlow hhigh => by rw [regAt_gap s.cfg hlow hhigh]; rfl
  case refine_8 => exact fun hwin j hj => readReg_window_lane hshape hwin halign hj
  all_goals
    rintro rfl
    rfl

theorem writeReg_window {s : State} {off : Nat} (v : Word) (hshape : s.Shape) (hoff : 0x100 ≤ off)
    (halign : off % 4 = 0) :
    ∃ l : List Byte, writeReg (regAt s.cfg off) v s = .next { s with stage := l }
      ∧ l.length = s.stage.length ∧ ∀ k, k < l.length → l.getD k 0#8 =
        (if off - 0x100 ≤ k ∧ k < off - 0x100 + 4 then v.extractLsb' (8 * (k - (off - 0x100))) 8
          else s.stage.getD k 0#8) := by
  obtain ⟨-, -, hstage, -, -, -⟩ := hshape
  rw [regAt_window s.cfg hoff]
  split
  case isTrue =>
    refine ⟨_, rfl, storeStageWord_length _ _ _, fun k hk => ?_⟩
    rw [storeStageWord_getD _ _ _ _ (by simpa using hk),
      show 4 * ((off - 0x100) / 4) = off - 0x100 by omega]
  case isFalse hpast =>
    have := past_buffer hpast
    exact ⟨s.stage, rfl, rfl, fun k hk => by rw [if_neg (by omega)]⟩

/-- Settles O45: the register the offset names, written. -/
theorem registerWrites : Obligations.RegisterWrites := by
  unfold Obligations.RegisterWrites
  intro s off v hshape hmax hoff halign
  rw [writeAccess_aligned s v hoff halign]
  refine ⟨?_, ?_, fun hwin => writeReg_window v hshape hwin halign, ?_, ?_⟩
  case refine_3 =>
    rintro (rfl | rfl | rfl | ⟨hlow, hhigh⟩)
    · rfl
    · rfl
    · rfl
    · rw [regAt_gap s.cfg hlow hhigh]; rfl
  all_goals
    rintro rfl
    rfl

/-! ### The host's turn -/

theorem offsetOf_base (p : Config.Params) : offsetOf p p.base = some 0 :=
  offsetOf_base_add p (off := 0) (by decide)

/-- A 32-bit write at the base is a CMD write. -/
theorem access_cmd (s : State) (w : Word) : access (.write s.cfg.base 4 w) s = cmdWrite w s := by
  rw [access, writeAccess, offsetOf_base]
  rfl

theorem cmdWrite_open {s : State} {w : Word} {i : Instr} (hport : s.PortOpen)
    (hdec : decode (.command w) = .ok i) : cmdWrite w s = exec i s := by
  simp only [cmdWrite, portHolds_of_open hport, hdec, Bool.false_eq_true, if_false]

theorem hostTurn_access {s : State} {a : Access} {as : List Access} (hawake : s.asleep = false)
    (hheld : s.held = none) (hprog : s.program = a :: as) :
    hostTurn s = access a { s with program := as } := by
  simp only [hostTurn, hawake, hheld, hprog, Bool.false_eq_true, if_false]

/-- Settles O47: the host's turn makes its next access, and a delivery decodes its word. -/
theorem stepRunsTheDecodedInstruction : Obligations.StepRunsTheDecodedInstruction := by
  unfold Obligations.StepRunsTheDecodedInstruction
  refine ⟨fun s w i as rest hport hawake hheld hturns hprog hdec => ?_, fun s w i rest hturns hdec => ?_⟩
  · rw [step_of_turns hturns, takeTurn,
      hostTurn_access (s := { s with turns := rest }) hawake hheld hprog]
    exact (access_cmd _ w).trans (cmdWrite_open hport hdec)
  · rw [step_of_turns hturns, takeTurn, condDeliver, hdec]

/-- Settles O48: both turns examine the held write before anything else, and neither moves an asleep host. -/
theorem hostWaitsOnItsHeldWrite : Obligations.HostWaitsOnItsHeldWrite := by
  unfold Obligations.HostWaitsOnItsHeldWrite
  intro s turn rest hturns hturn
  rw [step_of_turns hturns]
  refine ⟨fun w hawake hheld => ?_, fun hasleep => ?_⟩
  · rcases hturn with rfl | rfl <;>
      simp only [takeTurn, hostTurn, recheckTurn, hawake, hheld, recheck, Bool.false_eq_true, if_false]
  · rcases hturn with rfl | rfl <;> simp only [takeTurn, hostTurn, recheckTurn, hasleep, if_true]

end Sys2Proof.Machine
end

section
/-! PROOFS. An instruction for one bus neither reads nor writes the other's record or trace (10_state.md R39):
every rule commutes with putting another record and a longer trace there. -/

namespace Sys2Proof.Machine

/-- `s` with the record `b` of engine `m` and the trace of its port longer by `as`. -/
def State.withEngine (m : BusId) (b : BusEngine) (as : List BusAction) (s : State) : State :=
  (s.setBus m b).emitBus m as

/-- An attempt with the state it commits changed by `f`. -/
def Attempt.map (f : State → State) (a : Attempt) : Attempt :=
  match a with
  | .commit s => .commit (f s)
  | .hold => .hold
  | .fatal r => .fatal r

section Other

variable {m : BusId} {b : BusEngine} {as : List BusAction}

/-! ### The common steps commute -/

theorem command_withEngine (i : Instr) (s : State) (a : Attempt) :
    command i (s.withEngine m b as) (a.map (State.withEngine m b as))
      = onNext (State.withEngine m b as) (command i s a) := by
  have hport : (s.withEngine m b as).portHolds = s.portHolds := by cases m <;> rfl
  have hhold : ∀ w, (s.withEngine m b as).holdWrite w = (s.holdWrite w).withEngine m b as := fun w => by
    cases m <;> rfl
  have hraise : ∀ r, (s.withEngine m b as).raise r = (s.raise r).withEngine m b as := fun r => by
    cases m <;> rfl
  unfold command
  rw [hport, hhold]
  split
  case isTrue => rfl
  case isFalse =>
    cases a with
    | commit t => rfl
    | hold => simp only [Attempt.map, settle, hhold, onNext]
    | fatal r => simp only [Attempt.map, settle, hraise, onNext]

theorem deliver_withEngine {rule : State → Except FatalRec State} {s : State}
    (hrule : rule (s.wake.withEngine m b as) = (rule s.wake).map (State.withEngine m b as)) :
    deliver (s.withEngine m b as) rule = onNext (State.withEngine m b as) (deliver s rule) := by
  have hfatal : (s.withEngine m b as).fatal = s.fatal := by cases m <;> rfl
  have hwake : (s.withEngine m b as).wake = s.wake.withEngine m b as := by cases m <;> rfl
  have hraise : ∀ r, (s.withEngine m b as).raise r = (s.raise r).withEngine m b as := fun r => by
    cases m <;> rfl
  unfold deliver
  rw [hfatal, hwake, hrule]
  split
  case isTrue => rfl
  case isFalse =>
    cases rule s.wake with
    | ok t => rfl
    | error r => simp only [Except.map, hraise, onNext]

/-! ### What an operation on engine `n` sees and does beside another engine's record -/

theorem State.withEngine_voteAt (s : State) (d : Nat) : (s.withEngine m b as).voteAt d = s.voteAt d := by
  cases m <;> rfl

theorem State.withEngine_cfg (s : State) : (s.withEngine m b as).cfg = s.cfg := by cases m <;> rfl

theorem State.withEngine_opnd (s : State) : (s.withEngine m b as).opnd = s.opnd := by cases m <;> rfl

theorem State.withEngine_busIdle (s : State) (n : BusId) :
    (s.withEngine m b as).busIdle n = s.busIdle n := by
  cases m <;> cases n <;> rfl

theorem State.withEngine_respond (s : State) (v : Word) :
    (s.withEngine m b as).respond v = (s.respond v).withEngine m b as := by
  cases m <;> rfl

theorem State.withEngine_post (s : State) (i : BitVec 5) :
    (s.withEngine m b as).post i = (s.post i).withEngine m b as := by
  cases m <;> rfl

theorem State.withEngine_cmdBusy (s : State) (v : Bool) :
    { s.withEngine m b as with cmdBusy := v } = ({ s with cmdBusy := v } : State).withEngine m b as := by
  cases m <;> rfl

theorem State.withEngine_setVote (s : State) (d v : Nat) :
    (s.withEngine m b as).setVote d v = (s.setVote d v).withEngine m b as := by
  cases m <;> rfl

variable {n : BusId} (hne : m ≠ n)
include hne

theorem busId_ne_cases : (m = .bus0 ∧ n = .bus1) ∨ (m = .bus1 ∧ n = .bus0) := by
  cases m <;> cases n <;> simp_all

theorem State.withEngine_bus (s : State) : (s.withEngine m b as).bus n = s.bus n := by
  obtain ⟨rfl, rfl⟩ | ⟨rfl, rfl⟩ := busId_ne_cases hne <;> rfl

theorem State.withEngine_setBus (s : State) (b' : BusEngine) :
    (s.withEngine m b as).setBus n b' = (s.setBus n b').withEngine m b as := by
  obtain ⟨rfl, rfl⟩ | ⟨rfl, rfl⟩ := busId_ne_cases hne <;> rfl

theorem State.withEngine_emitBus (s : State) (as' : List BusAction) :
    (s.withEngine m b as).emitBus n as' = (s.emitBus n as').withEngine m b as := by
  obtain ⟨rfl, rfl⟩ | ⟨rfl, rfl⟩ := busId_ne_cases hne <;> rfl

/-! ### The rules of the bus commute -/

theorem openAttempt_withEngine (s : State) :
    openAttempt n (s.withEngine m b as) = (openAttempt n s).map (State.withEngine m b as) := by
  simp only [openAttempt, State.withEngine_bus hne, State.withEngine_setBus hne, State.withEngine_emitBus hne,
    State.withEngine_cmdBusy, State.withEngine_respond]
  split <;> rfl

theorem startAttempt_withEngine (dir : Dir) (cnt : BitVec 3) (dev : BitVec 7) (reg : Byte) (evt : BitVec 5)
    (s : State) :
    startAttempt n dir cnt dev reg evt (s.withEngine m b as)
      = (startAttempt n dir cnt dev reg evt s).map (State.withEngine m b as) := by
  unfold startAttempt voteBlock
  simp only [State.withEngine_bus hne, State.withEngine_cfg, State.withEngine_busIdle, State.withEngine_voteAt]
  split
  case isTrue => rfl
  case isFalse =>
    split
    case isTrue => rfl
    case isFalse =>
      split
      case isTrue => rfl
      case isFalse =>
        split
        case isTrue => rfl
        case isFalse =>
          by_cases hfull : s.voteAt s.cfg.busBlockDepth + 1 ≥ s.cfg.voteBound
          · simp only [hfull, if_true]
            rfl
          · simp only [hfull, if_false, State.withEngine_setVote, State.withEngine_cfg, State.withEngine_opnd,
              State.withEngine_bus hne, State.withEngine_setBus hne, State.withEngine_emitBus hne,
              State.withEngine_respond]
            rfl

theorem ackRule_withEngine (s : State) :
    ackRule n (s.withEngine m b as) = (ackRule n s).map (State.withEngine m b as) := by
  simp only [ackRule, State.withEngine_bus hne, State.withEngine_setBus hne, State.withEngine_emitBus hne]
  split
  case h_3 => split <;> rfl
  all_goals rfl

theorem rxdataRule_withEngine (data : Byte) (s : State) :
    rxdataRule n data (s.withEngine m b as) = (rxdataRule n data s).map (State.withEngine m b as) := by
  simp only [rxdataRule, State.withEngine_bus hne, State.withEngine_setBus hne, State.withEngine_emitBus hne]
  split
  case h_1 => split <;> rfl
  all_goals rfl

theorem completeBus_withEngine (s : State) :
    completeBus n (s.withEngine m b as) = (completeBus n s).map (State.withEngine m b as) := by
  unfold completeBus voteUnblock
  simp only [State.withEngine_cfg, State.withEngine_voteAt, State.withEngine_setVote]
  by_cases hvote : s.voteAt s.cfg.busBlockDepth = 0
  · simp only [hvote, if_true]; rfl
  · simp only [hvote, if_false, State.withEngine_bus hne, State.withEngine_setBus hne, State.withEngine_post]; rfl

theorem mstopRule_withEngine (s : State) :
    mstopRule n (s.withEngine m b as) = (mstopRule n s).map (State.withEngine m b as) := by
  simp only [mstopRule, State.withEngine_bus hne, completeBus_withEngine hne]
  split <;> rfl

theorem busRule_withEngine (c : BusCond) (data : Byte) (s : State) :
    busRule n c data (s.withEngine m b as) = (busRule n c data s).map (State.withEngine m b as) := by
  have hdone : recoveryDone n (s.withEngine m b as) = (recoveryDone n s).withEngine m b as := by
    simp only [recoveryDone, State.withEngine_bus hne, State.withEngine_setBus hne,
      State.withEngine_emitBus hne, State.withEngine_cmdBusy]
  simp only [busRule, State.withEngine_bus hne, ackRule_withEngine hne, rxdataRule_withEngine hne,
    mstopRule_withEngine hne, hdone]
  split
  case isTrue => cases c <;> rfl
  case isFalse =>
    split
    case isTrue => rfl
    case isFalse =>
      split
      case isTrue => rfl
      case isFalse => cases c <;> rfl

end Other

/-- Settles O34: the attempt or the rule of each instruction for bus `n` commutes. -/
theorem busEnginesAreIndependent : Obligations.BusEnginesAreIndependent := by
  unfold Obligations.BusEnginesAreIndependent
  intro i n m s b as hbus hne
  change exec i (s.withEngine m b as) = onNext (State.withEngine m b as) (exec i s)
  cases i <;> cases hbus
  case busOpen =>
    rw [exec, execBusOpen, openAttempt_withEngine hne]
    exact command_withEngine _ _ _
  case busStart dir cnt dev reg evt =>
    rw [exec, execBusStart, startAttempt_withEngine hne]
    exact command_withEngine _ _ _
  case busAvail | busRdata =>
    simp only [exec, execBusAvail, execBusRdata, State.withEngine_bus hne, State.withEngine_respond]
    exact command_withEngine _ _ (.commit _)
  all_goals exact deliver_withEngine (busRule_withEngine hne _ _ _)

end Sys2Proof.Machine
end

section
/-! PROOFS. Whole transactions of a bus engine (42_bus_engine.md R237): the engine's record and the trace of
its port through BUS_START, the conditions of the transfer and MSTOP. -/

namespace Sys2Proof.Machine

/-! ### A condition moves the engine's record on -/

/-- The engine `b` works: a condition of its bus meets its rule. -/
def BusEngine.Works (b : BusEngine) : Prop := b.recov = false ∧ b.opened = true ∧ b.avail = false

@[simp] theorem State.withEngine_bus_self (u : State) (n : BusId) (b : BusEngine) (as : List BusAction) :
    (u.withEngine n b as).bus n = b := by
  cases n <;> rfl

theorem State.withEngine_moves (u : State) (n : BusId) (b b' : BusEngine) (as as' : List BusAction) :
    ((u.withEngine n b as).setBus n b').emitBus n as' = u.withEngine n b' (as ++ as') := by
  cases n <;> simp [State.withEngine, State.setBus, State.emitBus]

theorem State.withEngine_setBus_self (u : State) (n : BusId) (b b' : BusEngine) (as : List BusAction) :
    (u.withEngine n b as).setBus n b' = u.withEngine n b' as := by
  cases n <;> rfl

@[simp] theorem State.wake_wake (u : State) : u.wake.wake = u.wake := rfl

theorem State.withEngine_wake (u : State) (n : BusId) (b : BusEngine) (as : List BusAction) :
    (u.withEngine n b as).wake = u.wake.withEngine n b as := by
  cases n <;> rfl

section Moves

variable {u : State} {n : BusId} {b : BusEngine} {as : List BusAction} (hfatal : u.fatal = false)
  (hworks : b.Works) (is : List Instr)
include hfatal hworks

/-- A condition whose rule moves a working engine's record moves that record and trace alone, and wakes the
host. -/
theorem execAll_condition {b' : BusEngine} {as' : List BusAction} {c : BusCond} {data : Byte}
    (hrule : workRule n c data (u.wake.withEngine n b as)
      = .ok (((u.wake.withEngine n b as).setBus n b').emitBus n as')) :
    execAll (busInstr n c data :: is) (u.withEngine n b as)
      = execAll is (u.wake.withEngine n b' (as ++ as')) := by
  obtain ⟨hrecov, hopened, havail⟩ := hworks
  rw [State.withEngine_moves, ← State.withEngine_wake] at hrule
  refine execAll_cons (exec_busInstr_works_ok ⟨?_, ?_, ?_, ?_⟩ hrule) is
  · cases n <;> exact hfatal
  all_goals simpa

theorem execAll_ack_initWrite {st' : BusSt} (hst : b.st = .initWrite)
    (hdir : (if b.dir = .write then .writeData else .addrForRead) = st') :
    execAll (busInstr n .ack 0#8 :: is) (u.withEngine n b as)
      = execAll is (u.wake.withEngine n { b with st := st' } (as ++ [.tx b.reg])) := by
  refine execAll_condition hfatal hworks is ((ackRule_initWrite (by simpa using hst)).trans ?_)
  simp only [State.withEngine_bus_self, hdir]

theorem execAll_ack_addrForRead (hst : b.st = .addrForRead) :
    execAll (busInstr n .ack 0#8 :: is) (u.withEngine n b as)
      = execAll is (u.wake.withEngine n { b with st := .initRead } (as ++ [.rstartR b.dev])) := by
  refine execAll_condition hfatal hworks is ((ackRule_addrForRead (by simpa using hst)).trans ?_)
  simp only [State.withEngine_bus_self]

theorem execAll_ack_lastByte (hst : b.st = .writeData) (hone : b.cnt = 1#3) :
    execAll (busInstr n .ack 0#8 :: is) (u.withEngine n b as) = execAll is (u.wake.withEngine n
      { b with cnt := 0#3, st := .awaitStop } (as ++ [.tx (b.word.getD 0 0#8), .stop])) := by
  refine execAll_condition hfatal hworks is
    ((ackRule_lastByte (by simpa using hst) (by simpa using hone)).trans ?_)
  simp only [State.withEngine_bus_self]

theorem execAll_ack_nextByte (hst : b.st = .writeData) (hzero : b.cnt ≠ 0#3) (hone : b.cnt ≠ 1#3) :
    execAll (busInstr n .ack 0#8 :: is) (u.withEngine n b as) = execAll is (u.wake.withEngine n
      { b with cnt := BitVec.ofNat 3 (b.cnt.toNat - 1) }
      (as ++ [.tx (b.word.getD (b.cnt.toNat - 1) 0#8)])) := by
  refine execAll_condition hfatal hworks is
    ((ackRule_nextByte (by simpa using hst) (by simpa using hzero) (by simpa using hone)).trans ?_)
  simp only [State.withEngine_bus_self]

theorem execAll_rxdata_lastByte (data : Byte) (hst : b.st = .initRead) (hone : b.cnt = 1#3) :
    execAll (busInstr n .rxdata data :: is) (u.withEngine n b as) = execAll is (u.wake.withEngine n
      { b with word := placeByte b.word 0#3 data, cnt := 0#3, st := .awaitStop }
      (as ++ [.nack, .stop])) := by
  refine execAll_condition hfatal hworks is
    ((rxdataRule_lastByte data (by simpa using hst) (by simpa using hone)).trans ?_)
  simp only [State.withEngine_bus_self]

theorem execAll_rxdata_nextByte (data : Byte) (hst : b.st = .initRead) (hone : b.cnt ≠ 1#3) :
    execAll (busInstr n .rxdata data :: is) (u.withEngine n b as) = execAll is (u.wake.withEngine n
      { b with word := placeByte b.word (b.cnt - 1) data, cnt := b.cnt - 1 } (as ++ [.ack])) := by
  refine execAll_condition hfatal hworks is
    ((rxdataRule_nextByte data (by simpa using hst) (by simpa using hone)).trans ?_)
  simp only [State.withEngine_bus_self]

end Moves

/-! ### The bytes of a write -/

/-- The bytes of a word from entry `k` down to 0, as a write sends them. -/
theorem tx_map_range_succ (w : List Byte) (k : Nat) :
    (List.range (k + 1)).map (fun j => BusAction.tx (w.getD (k - j) 0#8))
      = .tx (w.getD k 0#8) :: (List.range k).map (fun j => .tx (w.getD (k - 1 - j) 0#8)) := by
  rw [List.range_succ_eq_map, List.map_cons, List.map_map]
  simp [Function.comp_def, Nat.sub_sub, Nat.add_comm 1]

/-- The ACKs of the byte phase send the bytes still to go, the most significant first, then STOP. -/
theorem execAll_acks {u : State} {n : BusId} {b : BusEngine} {as : List BusAction} {k : Nat}
    (hfatal : u.fatal = false) (hworks : b.Works) (hst : b.st = .writeData) (hcnt : b.cnt.toNat = k + 1)
    (is : List Instr) :
    execAll (List.replicate (k + 1) (busInstr n .ack 0#8) ++ is) (u.withEngine n b as)
      = execAll is (u.wake.withEngine n { b with cnt := 0#3, st := .awaitStop }
        (as ++ (List.range (k + 1)).map (fun j => .tx (b.word.getD (k - j) 0#8)) ++ [.stop])) := by
  induction k generalizing u b as with
  | zero =>
    rw [List.replicate_one, List.singleton_append,
      execAll_ack_lastByte hfatal hworks _ hst (by bv_omega)]
    simp
  | succ k ih =>
    have hnext := execAll_ack_nextByte (n := n) (as := as) hfatal hworks
      (List.replicate (k + 1) (busInstr n .ack 0#8) ++ is) hst (by bv_omega) (by bv_omega)
    have hrest := ih (u := u.wake) (b := { b with cnt := BitVec.ofNat 3 (b.cnt.toNat - 1) })
      (as := as ++ [.tx (b.word.getD (b.cnt.toNat - 1) 0#8)]) hfatal hworks hst (by simp; bv_omega)
    rw [List.replicate_succ, List.cons_append, hnext, hrest, tx_map_range_succ b.word (k + 1), hcnt]
    simp

/-- The ACKs of a whole write: the register address, then the bytes. -/
theorem execAll_write {u : State} {n : BusId} {b : BusEngine} {as : List BusAction} {k : Nat}
    (hfatal : u.fatal = false) (hworks : b.Works) (hst : b.st = .initWrite) (hdir : b.dir = .write)
    (hcnt : b.cnt.toNat = k + 1) (is : List Instr) :
    execAll (List.replicate (k + 1 + 1) (busInstr n .ack 0#8) ++ is) (u.withEngine n b as)
      = execAll is (u.wake.withEngine n { b with cnt := 0#3, st := .awaitStop }
        (as ++ [.tx b.reg] ++ (List.range (k + 1)).map (fun j => .tx (b.word.getD (k - j) 0#8))
          ++ [.stop])) := by
  rw [List.replicate_succ, List.cons_append, execAll_ack_initWrite hfatal hworks _ hst (if_pos hdir)]
  exact execAll_acks (u := u.wake) (b := { b with st := .writeData }) hfatal hworks rfl hcnt is

/-! ### The vote of a transaction -/

/-- The vote a starting transaction casts against depth `d`, with the answer of its command. -/
def State.castVote (s : State) (d : Nat) : State := (s.setVote d (s.voteAt d + 1)).respond 0#32

@[simp] theorem castVote_cfg (s : State) (d : Nat) : (s.castVote d).cfg = s.cfg := rfl

/-- What a whole transaction changes beside its engine: the command's answer, the host's wake and the
completion event. -/
def State.transacted (s : State) (evt : BitVec 5) : State :=
  { s with resp := 0#32, asleep := false }.post evt

theorem castVote_voteAt {s : State} {d : Nat} (hshape : s.Shape) (hcfg : s.cfg.ok = true)
    (hd : d < s.cfg.nDepths) (hroom : s.voteAt d + 1 < s.cfg.voteBound) :
    (s.castVote d).voteAt d = s.voteAt d + 1 := by
  obtain ⟨hlen, -⟩ := hshape
  obtain ⟨-, ⟨-, hbound⟩, -⟩ := Config.Params.bounds_of_ok hcfg
  exact setVote_voteAt_self (by omega) (by omega)

/-- Releasing the vote leaves the table as the transaction found it. -/
theorem castVote_release {s : State} {d : Nat} (hshape : s.Shape) (hd : d < s.cfg.nDepths) :
    (s.castVote d).wake.setVote d (s.voteAt d) = { s with resp := 0#32, asleep := false } := by
  have hfits := Nat.mod_eq_of_lt (voteAt_lt_width hshape d)
  obtain ⟨hlen, -⟩ := hshape
  have hback := vote_set_back (s := s) _ ((s.voteAt d + 1) % 2 ^ s.cfg.voteW) rfl
    (by omega : d < s.vote.length)
  simp only [State.castVote, State.wake, State.setVote, State.respond, hfits]
  exact congrArg (fun v => { s with resp := 0#32, asleep := false, vote := v }) hback

/-- MSTOP ends the transaction: the engine is available, its vote released, its event posted. -/
theorem execAll_mstop {s : State} {n : BusId} {b : BusEngine} {as : List BusAction} (hfatal : s.fatal = false)
    (hshape : s.Shape) (hcfg : s.cfg.ok = true) (hroom : s.voteAt s.cfg.busBlockDepth + 1 < s.cfg.voteBound)
    (hworks : b.Works) (hst : b.st = .awaitStop) :
    execAll [busInstr n .mstop 0#8] ((s.castVote s.cfg.busBlockDepth).wake.withEngine n b as)
      = some ((s.transacted b.evt).withEngine n { b with avail := true, st := .initWrite } as) := by
  obtain ⟨-, -, ⟨-, hd⟩, -⟩ := Config.Params.bounds_of_ok hcfg
  have hback := castVote_release hshape hd
  have hvote : (s.castVote s.cfg.busBlockDepth).wake.voteAt s.cfg.busBlockDepth
      = s.voteAt s.cfg.busBlockDepth + 1 := castVote_voteAt hshape hcfg hd hroom
  have hparams : (s.castVote s.cfg.busBlockDepth).wake.cfg = s.cfg := rfl
  obtain ⟨hrecov, hopened, havail⟩ := hworks
  have hexec : exec (busInstr n .mstop 0#8) ((s.castVote s.cfg.busBlockDepth).wake.withEngine n b as)
      = .next ((s.transacted b.evt).withEngine n { b with avail := true, st := .initWrite } as) := by
    refine exec_busInstr_works_ok (c := .mstop) ⟨?_, by simpa, by simpa, by simpa⟩ ?_
    · cases n <;> exact hfatal
    · rw [State.withEngine_wake, State.wake_wake]
      refine (mstopRule_completes (by simpa using hst) ?_).trans ?_
      · rw [State.withEngine_cfg, State.withEngine_voteAt, hparams, hvote]
        exact Nat.succ_ne_zero _
      · simp only [State.withEngine_cfg, State.withEngine_voteAt, State.withEngine_setVote,
          State.withEngine_post, State.withEngine_bus_self, State.withEngine_setBus_self, hparams, hvote,
          Nat.add_sub_cancel, hback, State.transacted]
  rw [execAll_cons hexec, execAll]

/-! ### The whole write -/

theorem execAll_busStart {s : State} {n : BusId} {dir : Dir} {cnt : BitVec 3} {dev : BitVec 7} {reg : Byte}
    {evt : BitVec 5} (hport : s.PortOpen) (h1 : 1 ≤ cnt.toNat) (hmax : cnt.toNat ≤ s.cfg.maxBytes)
    (hopened : (s.bus n).opened = true) (havail : (s.bus n).avail = true) (hidle : s.busIdle n = true)
    (hroom : s.voteAt s.cfg.busBlockDepth + 1 < s.cfg.voteBound) (is : List Instr) :
    execAll (.busStart n dir cnt dev reg evt :: is) s
      = execAll is ((s.castVote s.cfg.busBlockDepth).withEngine n
        (startedEngine s.cfg (s.bus n) s.opnd dir cnt dev reg evt) [.startW dev]) :=
  execAll_cons (exec_busStart_begins hport h1 hmax dir dev reg evt hopened havail hidle hroom) is

/-- What a whole transaction of engine `n` leaves, whatever it received. -/
theorem transacted_withEngine (s : State) (n : BusId) (b : BusEngine) (as : List BusAction) (evt : BitVec 5)
    (t : State) (ht : t = (s.transacted evt).withEngine n b as) :
    t.fatal = s.fatal ∧ t.cmdBusy = s.cmdBusy ∧ t.bus n = b ∧ t.vote = s.vote
      ∧ (∀ j, j < 32 → t.evt.getLsbD j = (s.evt.getLsbD j || decide (j = evt.toNat)))
      ∧ t.busphy n = s.busphy n ++ as := by
  subst ht
  have hevt := post_getLsbD { s with resp := 0#32, asleep := false } evt
  cases n <;> exact ⟨rfl, rfl, rfl, rfl, fun j _ => hevt j, rfl⟩

/-- The bytes of a write are those of OPND. -/
theorem tx_map_toDataWord {p : Config.Params} (v : Word) {k : Nat} (hk : k < p.wordLen) :
    (List.range (k + 1)).map (fun j => BusAction.tx ((toDataWord p.wordLen v).getD (k - j) 0#8))
      = (List.range (k + 1)).map (fun j => .tx (v.extractLsb' (8 * (k - j)) 8)) :=
  List.map_congr_left fun j _ => by rw [toDataWord_getD, if_pos (by omega)]

/-- Settles O36: BUS_START, the ACK of the device address, the bytes, MSTOP. -/
theorem writeTransactionSendsTheBytes : Obligations.WriteTransactionSendsTheBytes := by
  unfold Obligations.WriteTransactionSendsTheBytes
  intro s n cnt dev reg evt hport hshape hcfg _ hrecov hopened havail hidle hroom h1 hmax
  obtain ⟨k, hk⟩ : ∃ k, cnt.toNat = k + 1 := ⟨cnt.toNat - 1, by omega⟩
  obtain ⟨-, -, -, -, -, hmaxBytes⟩ := Config.Params.bounds_of_ok hcfg
  have hworks : (startedEngine s.cfg (s.bus n) s.opnd .write cnt dev reg evt).Works :=
    ⟨hrecov, hopened, rfl⟩
  have hended : ({ startedEngine s.cfg (s.bus n) s.opnd .write cnt dev reg evt with
      cnt := 0#3, st := .awaitStop } : BusEngine).Works := hworks
  have hvoted : (s.castVote s.cfg.busBlockDepth).fatal = false := hport.1
  rw [execAll_busStart hport h1 hmax hopened havail hidle hroom, hk,
    execAll_write hvoted hworks rfl rfl hk, execAll_mstop hport.1 hshape hcfg hroom hended rfl]
  obtain ⟨hfatal, -, hbus, hvote, hevt, htrace⟩ := transacted_withEngine s n _ _ evt _ rfl
  refine ⟨_, rfl, hfatal.trans hport.1, congrArg BusEngine.avail hbus, hvote, hevt, htrace.trans ?_⟩
  have hbytes := tx_map_toDataWord (p := s.cfg) s.opnd (k := k) (by omega)
  simp only [startedEngine, hbytes, Nat.add_sub_cancel, List.append_assoc, List.cons_append, List.nil_append]

end Sys2Proof.Machine
end

section
/-! PROOFS. The bytes of a whole read (42_bus_engine.md R222, R237) and the number they stand for
(20_memory.md R82). -/

namespace Sys2Proof.Machine

/-! ### The bytes of a read -/

/-- A byte placed above the places still to fill joins those already there. -/
theorem placeByte_replicate (k : Nat) (hk : k < 8) (data : Byte) (tail : List Byte) :
    placeByte (List.replicate (k + 1) 0#8 ++ tail) (BitVec.ofNat 3 k) data
      = List.replicate k 0#8 ++ data :: tail := by
  have hplace : (BitVec.ofNat 3 k).toNat = k := by simp; omega
  rw [List.replicate_succ', List.append_assoc, placeByte, hplace]
  simp [List.set_append_right]

/-- RXDATA by RXDATA the bytes fill the word from above, each but the last acknowledged. -/
theorem execAll_rxdatas {u : State} {n : BusId} {b : BusEngine} {as : List BusAction} {data : Byte}
    {bs tail : List Byte} (hfatal : u.fatal = false) (hworks : b.Works) (hst : b.st = .initRead)
    (hcnt : b.cnt.toNat = bs.length + 1) (hword : b.word = List.replicate (bs.length + 1) 0#8 ++ tail)
    (is : List Instr) :
    execAll ((data :: bs).map (busInstr n .rxdata) ++ is) (u.withEngine n b as)
      = execAll is (u.wake.withEngine n
        { b with word := (data :: bs).reverse ++ tail, cnt := 0#3, st := .awaitStop }
        (as ++ List.replicate bs.length .ack ++ [.nack, .stop])) := by
  induction bs generalizing u b as data tail with
  | nil =>
    rw [List.map_singleton, List.singleton_append,
      execAll_rxdata_lastByte hfatal hworks _ data hst (by simp at hcnt; bv_omega), hword]
    have hplace := placeByte_replicate 0 (by decide) data tail
    simp_all
  | cons next bs ih =>
    rw [List.length_cons] at hcnt hword
    have hlen : bs.length + 1 < 8 := by omega
    have hpred : b.cnt - 1 = BitVec.ofNat 3 (bs.length + 1) := by bv_omega
    have hplaced : placeByte b.word (b.cnt - 1) data
        = List.replicate (bs.length + 1) 0#8 ++ data :: tail := by
      rw [hword, hpred, placeByte_replicate _ hlen]
    have hrest := ih (u := u.wake) (data := next) (as := as ++ [.ack])
      (b := { b with word := placeByte b.word (b.cnt - 1) data, cnt := b.cnt - 1 })
      hfatal hworks hst (by bv_omega) hplaced
    rw [List.map_cons, List.cons_append,
      execAll_rxdata_nextByte hfatal hworks _ data hst (by bv_omega), hrest]
    simp [List.replicate_succ]

/-! ### The number the bytes stand for -/

theorem bigEndian_append (bs : List Byte) (b : Byte) :
    bigEndian (bs ++ [b]) = (bigEndian bs <<< 8) ||| b.setWidth 32 := by
  rw [bigEndian, List.foldl_append]
  rfl

/-- The bytes of the number, the last received the least significant. -/
theorem bigEndian_extract (bs : List Byte) (j : Nat) (hj : j < 4) :
    (bigEndian bs).extractLsb' (8 * j) 8 = bs.reverse.getD j 0#8 := by
  induction bs using List.reverseRecOn generalizing j with
  | nil => simp [bigEndian]
  | append_singleton bs b ih =>
    rw [bigEndian_append, List.reverse_concat]
    cases j with
    | zero =>
      ext i hi
      simp [hi, show i < 32 by omega]
    | succ j =>
      rw [List.getD_cons_succ, ← ih j (by omega)]
      ext i hi
      have hlow : ¬ 8 * (j + 1) + i < 8 := by omega
      have hplace : 8 * (j + 1) + i - 8 = 8 * j + i := by omega
      simp [hlow, hplace, show 8 * (j + 1) + i < 32 by omega,
        BitVec.getLsbD_of_ge b (8 * (j + 1) + i) (by omega),
        ← BitVec.getLsbD_eq_getElem]

/-- A word is its four bytes. -/
theorem word_eq_of_extract {v w : Word}
    (h : ∀ j, j < 4 → v.extractLsb' (8 * j) 8 = w.extractLsb' (8 * j) 8) : v = w := by
  ext i hi
  have hbyte := congrArg (fun x => x.getLsbD (i % 8)) (h (i / 8) (by omega))
  simpa [Nat.mod_lt, Nat.div_add_mod, BitVec.getLsbD_eq_getElem hi] using hbyte

/-- The places past the bytes received hold 0. -/
theorem getD_reverse_append_replicate (bs : List Byte) (k j : Nat) :
    (bs.reverse ++ List.replicate k 0#8).getD j 0#8 = bs.reverse.getD j 0#8 := by
  simp only [List.getD_eq_getElem?_getD, List.getElem?_append, List.getElem?_replicate]
  grind

/-- A word that holds up to four received bytes and 0 above them shows their number. -/
theorem ofDataWord_reverse (bs : List Byte) (k : Nat) :
    ofDataWord (bs.reverse ++ List.replicate k 0#8) = bigEndian bs := by
  refine word_eq_of_extract fun j hj => ?_
  rw [ofDataWord_extract _ j hj, bigEndian_extract bs j hj, getD_reverse_append_replicate]

/-! ### The whole read -/

/-- The conditions of a whole read: the register address, the restart, the bytes. -/
theorem execAll_read {u : State} {n : BusId} {b : BusEngine} {as : List BusAction} {data : Byte}
    {bs tail : List Byte} (hfatal : u.fatal = false) (hworks : b.Works) (hst : b.st = .initWrite)
    (hdir : b.dir = .read) (hcnt : b.cnt.toNat = bs.length + 1)
    (hword : b.word = List.replicate (bs.length + 1) 0#8 ++ tail) (is : List Instr) :
    execAll (busInstr n .ack 0#8 :: busInstr n .ack 0#8 :: ((data :: bs).map (busInstr n .rxdata) ++ is))
        (u.withEngine n b as)
      = execAll is (u.wake.withEngine n
        { b with word := (data :: bs).reverse ++ tail, cnt := 0#3, st := .awaitStop }
        (as ++ [.tx b.reg] ++ [.rstartR b.dev] ++ List.replicate bs.length .ack ++ [.nack, .stop])) := by
  rw [execAll_ack_initWrite hfatal hworks _ hst (if_neg (by simp [hdir]))]
  refine (execAll_ack_addrForRead (u := u.wake) (b := { b with st := .addrForRead })
    hfatal hworks _ rfl).trans ?_
  exact execAll_rxdatas (u := u.wake) (b := { b with st := .initRead }) hfatal hworks rfl hcnt hword is

/-- Settles O35: BUS_START, the conditions of the read, MSTOP; BUS_RDATA shows the bytes' number. -/
theorem readTransactionAssemblesTheBytes : Obligations.ReadTransactionAssemblesTheBytes := by
  unfold Obligations.ReadTransactionAssemblesTheBytes
  intro s n cnt dev reg evt bs hport hshape hcfg _ hrecov hopened havail hidle hroom h1 hmax hlen
  obtain ⟨data, bs, rfl⟩ := List.exists_cons_of_length_pos (by omega : 0 < bs.length)
  obtain ⟨-, -, -, -, -, hmaxBytes⟩ := Config.Params.bounds_of_ok hcfg
  obtain ⟨k, hk⟩ : ∃ k, s.cfg.wordLen = bs.length + 1 + k :=
    Nat.exists_eq_add_of_le (by rw [List.length_cons] at hlen; omega)
  have hworks : (startedEngine s.cfg (s.bus n) s.opnd .read cnt dev reg evt).Works :=
    ⟨hrecov, hopened, rfl⟩
  have hended : ({ startedEngine s.cfg (s.bus n) s.opnd .read cnt dev reg evt with
      word := (data :: bs).reverse ++ List.replicate k 0#8, cnt := 0#3, st := .awaitStop } : BusEngine).Works :=
    hworks
  have hword : (startedEngine s.cfg (s.bus n) s.opnd .read cnt dev reg evt).word
      = List.replicate (bs.length + 1) 0#8 ++ List.replicate k 0#8 := by
    rw [← List.replicate_add, ← hk]; rfl
  have hvoted : (s.castVote s.cfg.busBlockDepth).fatal = false := hport.1
  rw [execAll_busStart hport h1 hmax hopened havail hidle hroom,
    execAll_read hvoted hworks rfl rfl hlen.symm hword, execAll_mstop hport.1 hshape hcfg hroom hended rfl]
  refine ⟨_, rfl, ?_⟩
  generalize ht : State.withEngine _ _ _ _ = t
  obtain ⟨hfatal, hbusy, hbus, hvote, hevt, htrace⟩ := transacted_withEngine s n _ _ evt t ht.symm
  have hfilled : (t.bus n).word = (data :: bs).reverse ++ List.replicate k 0#8 := congrArg BusEngine.word hbus
  refine ⟨hfatal.trans hport.1, by simp [hfilled, hk]; omega, fun j => ?_, fun _ => ?_,
    congrArg BusEngine.avail hbus, hvote, hevt, htrace.trans ?_⟩
  · rw [hfilled, getD_reverse_append_replicate, ← hlen]
    split
    case isTrue hj => exact congrFun (List.getD_reverse j hj) 0#8
    case isFalse hj => exact List.getD_eq_default _ _ (by simpa using hj)
  · rw [← ofDataWord_reverse (data :: bs) k, ← hfilled]
    exact command_open ⟨hfatal.trans hport.1, hbusy.trans hport.2⟩ _ _
  · simp [startedEngine, ← hlen]

end Sys2Proof.Machine
end

section
/-! PROOFS. A whole transmission of the serial engine (43_serial_engine.md R271): its record and the trace of
SERPHY through SER_START, the TXBLs and TXC. -/

namespace Sys2Proof.Machine

/-- The serial engine `r` works: a condition of its channel meets its rule. -/
def SerEngine.Works (r : SerEngine) : Prop := r.opened = true ∧ r.avail = false

/-- `s` with the serial record `r` and the SERPHY trace longer by `as`. -/
def State.withSerial (s : State) (r : SerEngine) (as : List SerAction) : State :=
  { s with sr := r }.emitSer as

/-- The record when the byte phase has ended. -/
def SerEngine.ended (r : SerEngine) : SerEngine :=
  { r with cur := r.len, ienTxbl := false, st := .stop, ienTxc := true }

/-! ### The byte phase -/

/-- The bytes still to go are the next one and those after it. -/
theorem payload_cons {pay : List Byte} {c : Nat} (hc : c < pay.length) (k : Nat) :
    (pay.drop c).take (k + 1) = pay.getD c 0#8 :: (pay.drop (c + 1)).take k := by
  rw [List.drop_eq_getElem_cons hc, List.take_succ_cons, List.getD_eq_getElem _ _ hc]

section Bytes

variable {u : State} {r : SerEngine} {as : List SerAction} (hfatal : u.fatal = false) (hworks : r.Works)
  (hst : r.st = .writeData) (is : List Instr)
include hfatal hworks hst

/-- TXBL moves a working engine's record and trace alone, and wakes the host. -/
theorem execAll_txbl {r' : SerEngine} {as' : List SerAction} (hmoves : r.Moves r' as') :
    execAll (.serTxbl 0#8 :: is) (u.withSerial r as) = execAll is (u.wake.withSerial r' (as ++ as')) := by
  obtain ⟨hopened, havail⟩ := hworks
  rw [execAll_cons (exec_serTxbl_of_moves (s := u.withSerial r as) 0#8 ⟨hfatal, hopened, havail⟩ hst hmoves)]
  simp [State.withSerial, State.emitSer, State.wake]

/-- TXBL by TXBL the `k + 1` bytes still to go are sent in order, and the byte phase ends. -/
theorem execAll_txbls {k : Nat} (hlen : r.len.toNat = r.cur.toNat + k + 1)
    (hpay : r.len.toNat ≤ r.pay.length) :
    execAll (List.replicate (k + 1) (.serTxbl 0#8) ++ is) (u.withSerial r as)
      = execAll is (u.wake.withSerial r.ended
        (as ++ ((r.pay.drop r.cur.toNat).take (k + 1)).map .tx ++ [.ienTxbl false, .ienTxc true])) := by
  induction k generalizing u r as with
  | zero =>
    have hlast : r.cur + 1 = r.len := by bv_omega
    rw [List.replicate_one, List.singleton_append,
      execAll_txbl hfatal hworks hst is (.lastSent (by omega) hlast), hlast, payload_cons (by omega) 0]
    simp [SerEngine.ended]
  | succ k ih =>
    have hnext : (r.cur + 1).toNat = r.cur.toNat + 1 := by bv_omega
    have hrest := ih (u := u.wake) (r := { r with cur := r.cur + 1 })
      (as := as ++ [.tx (r.pay.getD r.cur.toNat 0#8)]) hfatal hworks hst (by simp only [hnext]; omega) hpay
    rw [List.replicate_succ, List.cons_append,
      execAll_txbl hfatal hworks hst _ (.sent (by omega) (by bv_omega)), hrest,
      payload_cons (by omega) (k + 1), hnext, List.map_cons, List.append_assoc as [_], List.singleton_append]
    rfl

/-- The TXBLs of a whole transmission: the payload, or nothing where the length is 0. -/
theorem execAll_payload (hcur : r.cur = 0#8) (hpay : r.len.toNat ≤ r.pay.length) :
    execAll (List.replicate (max r.len.toNat 1) (.serTxbl 0#8) ++ is) (u.withSerial r as)
      = execAll is (u.wake.withSerial r.ended
        (as ++ (r.pay.take r.len.toNat).map .tx ++ [.ienTxbl false, .ienTxc true])) := by
  cases hlen : r.len.toNat with
  | zero =>
    have hnone : r.cur = r.len := by bv_omega
    rw [Nat.zero_max, List.replicate_one, List.singleton_append,
      execAll_txbl hfatal hworks hst is (.nothingLeft hnone)]
    simp [SerEngine.ended, ← hnone]
  | succ k =>
    rw [Nat.max_eq_left (Nat.le_add_left 1 k),
      execAll_txbls hfatal hworks hst is (by rw [hlen, hcur]; simp) hpay, hcur]
    rfl

end Bytes

/-! ### The whole transmission -/

theorem copyPayload_take {n : Nat} {stage pay : List Byte} (hstage : n ≤ stage.length)
    (hpay : n ≤ pay.length) :
    (copyPayload n stage pay).take n = stage.take n := by
  refine List.ext_getElem (by simp [copyPayload, hstage, hpay]) fun j hj _ => ?_
  have hjn : j < n := by simp at hj; omega
  simp [copyPayload, hjn, List.getElem?_eq_getElem (by omega : j < stage.length)]

/-- TXC ends the transmission: the engine is available, its vote released, its event posted. -/
theorem execAll_txc {s : State} {r : SerEngine} {as : List SerAction} (hfatal : s.fatal = false)
    (hshape : s.Shape) (hcfg : s.cfg.ok = true) (hroom : s.voteAt s.cfg.serBlockDepth + 1 < s.cfg.voteBound)
    (hworks : r.Works) (hst : r.st = .stop) :
    execAll [.serTxc 0#8] ((s.castVote s.cfg.serBlockDepth).wake.withSerial r as)
      = some ((s.transacted r.evt).withSerial { r with ienTxc := false, st := .writeData, avail := true }
        (as ++ [.ienTxc false])) := by
  obtain ⟨-, -, -, ⟨-, hd⟩, -⟩ := Config.Params.bounds_of_ok hcfg
  have hback := castVote_release hshape hd
  have hvote : (s.castVote s.cfg.serBlockDepth).wake.voteAt s.cfg.serBlockDepth
      = s.voteAt s.cfg.serBlockDepth + 1 := castVote_voteAt hshape hcfg hd hroom
  obtain ⟨hopened, havail⟩ := hworks
  have hexec := exec_serInstr_works_ok (c := .txc) (data := 0#8)
    (s := (s.castVote s.cfg.serBlockDepth).wake.withSerial r as) ⟨hfatal, hopened, havail⟩
    (txcRule_completes hst (hvote ▸ Nat.succ_ne_zero _))
  have hdone : (s.transacted r.evt) = ((s.castVote s.cfg.serBlockDepth).wake.setVote s.cfg.serBlockDepth
      ((s.castVote s.cfg.serBlockDepth).wake.voteAt s.cfg.serBlockDepth - 1)).post r.evt := by
    rw [hvote, Nat.add_sub_cancel, hback, State.transacted]
  rw [hdone]
  refine (execAll_cons hexec []).trans (congrArg some ?_)
  simp [State.withSerial, State.emitSer, State.post, State.setVote, State.wake, State.voteAt]

/-- What a whole transmission leaves. -/
theorem transacted_withSerial (s : State) (r : SerEngine) (as : List SerAction) (evt : BitVec 5)
    (t : State) (ht : t = (s.transacted evt).withSerial r as) :
    t.fatal = s.fatal ∧ t.sr = r ∧ t.vote = s.vote
      ∧ (∀ j, j < 32 → t.evt.getLsbD j = (s.evt.getLsbD j || decide (j = evt.toNat)))
      ∧ t.serphy = s.serphy ++ as := by
  subst ht
  exact ⟨rfl, rfl, rfl, fun j _ => post_getLsbD { s with resp := 0#32, asleep := false } evt j, rfl⟩

theorem execAll_serStart {s : State} {len : Byte} (hport : s.PortOpen) (hlen : len.toNat ≤ s.cfg.serMaxLen)
    (hopened : s.sr.opened = true) (havail : s.sr.avail = true)
    (hroom : s.voteAt s.cfg.serBlockDepth + 1 < s.cfg.voteBound) (is : List Instr) :
    execAll (.serStart len :: is) s
      = execAll is ((s.castVote s.cfg.serBlockDepth).withSerial (startedSerial s.sr s.stage len)
        [.ienTxbl true]) :=
  execAll_cons (exec_serStart_begins hport hlen hopened havail hroom) is

/-- Settles O42: SER_START, the TXBLs, TXC. -/
theorem transmissionSendsThePayload : Obligations.TransmissionSendsThePayload := by
  unfold Obligations.TransmissionSendsThePayload
  intro s len hport hshape hcfg _ hopened havail hlen hroom
  have ⟨_, _, hstage, hpay, _⟩ := hshape
  have hworks : (startedSerial s.sr s.stage len).Works := ⟨hopened, rfl⟩
  have hended : (startedSerial s.sr s.stage len).ended.Works := ⟨hopened, rfl⟩
  have hvoted : (s.castVote s.cfg.serBlockDepth).fatal = false := hport.1
  have hroomy : len.toNat ≤ (startedSerial s.sr s.stage len).pay.length := by
    simpa [startedSerial, copyPayload, hpay]
  have hcopied : (startedSerial s.sr s.stage len).pay.take len.toNat = s.stage.take len.toNat :=
    copyPayload_take (by omega) (by omega)
  have hpayload := execAll_payload (as := [.ienTxbl true]) hvoted hworks rfl [.serTxc 0#8] rfl hroomy
  rw [execAll_serStart hport hlen hopened havail hroom]
  refine ⟨_, hpayload.trans (execAll_txc hport.1 hshape hcfg hroom hended rfl), ?_⟩
  obtain ⟨hfatal, hsr, hvote, hevt, htrace⟩ := transacted_withSerial s _ _ s.sr.evt _ rfl
  refine ⟨hfatal.trans hport.1, congrArg SerEngine.avail hsr, hvote, hevt, htrace.trans ?_⟩
  have hsent : (startedSerial s.sr s.stage len).len = len := rfl
  rw [hsent, hcopied]
  simp

end Sys2Proof.Machine
end
